-- ==== Sys2Proof/Word.lean ====
section
/-! DEFINITION. The words of AHD-CORE: bytes, 32- and 64-bit words, samples as pairs of words
(spec/00_scope.md R13), the byte order parameter, the three stages, the clock's answer. -/

namespace Sys2Proof

/-- A byte (00_scope R12). -/
abbrev Byte := BitVec 8

/-- `W32`, a 32-bit word with no interpretation (00_scope R13). -/
abbrev W32 := BitVec 32

/-- A `W32` read as IEEE-754 binary32 (30_encoding R90). -/
abbrev F32 := BitVec 32

/-- A 64-bit word read as IEEE-754 binary64 (30_encoding R91). -/
abbrev F64 := BitVec 64

/-- A complex pair of words, moved as two words and never through a float value (00_scope R13). -/
structure Sample where
  re : W32
  im : W32
  deriving DecidableEq, Repr, Inhabited

/-- The zero sample, +0.0 + j·(+0.0) (10_state R34). -/
def Sample.zero : Sample := ⟨0, 0⟩

/-- The byte order of the `ENDIAN` parameter (00_scope R7, 92 D5). -/
inductive Endian where
  | little
  | big
  deriving DecidableEq, Repr, Inhabited

/-- The three decimator stages, k = 1, 2, 3 (00_scope R2, R3). -/
inductive Stage where
  | s1
  | s2
  | s3
  deriving DecidableEq, Repr, Inhabited

/-- One answer of `ClockRead()`: Unix seconds and a nanosecond remainder below 10^9, the bound
00_scope R15 puts on every answer. -/
structure Clock where
  sec : Nat
  nsec : Fin 1000000000
  deriving DecidableEq, Repr, Inhabited

/-- A rational number num/den that is not negative, for the exact `FS_OUT` (10_state R28). -/
structure Frac where
  num : Nat
  den : Nat
  deriving DecidableEq, Repr, Inhabited

end Sys2Proof
end

