-- ==== Sys2Proof/Syntax.lean ====
section
/-! DEFINITION. The operations of AHD-CORE: one constructor of `Instr` for each of the 21 rows of
spec/opcode_table.json (30_encoding R111), with the register names of 30_encoding R112 and the
reasons for which the command port refuses (R113, 46_pipeline_control R250). -/

namespace Sys2Proof

/-- The seven configuration registers, numbers 0x00 to 0x06 (10_state R21 to R27). -/
inductive CfgReg where
  | rate
  | shiftKhz
  | pkt
  | chunk
  | addr
  | ports
  | enc
  deriving DecidableEq, Repr, Inhabited

/-- The registers STATRD reads (30_encoding R112). -/
inductive StatReg where
  | cfg (r : CfgReg)
  | run
  | status
  | cnt
  | dfail
  | accLen
  | carryLen
  | anchValid
  | anchSec
  | anchNsec
  | cause
  | causeInfo
  deriving DecidableEq, Repr, Inhabited

/-- Why a command or an operation put to the block is refused without effect
(30_encoding R113, 46_pipeline_control R250). -/
inductive Reject where
  /-- No operation has this code (R113). -/
  | unassignedCode (op : Byte)
  /-- A micro-operation's code on the command port (R113). -/
  | microOnPort (op : Byte)
  /-- A host command's code on the component-test bench (log 13). -/
  | commandOnBench (op : Byte)
  /-- A register number R112 does not list, or not for this command. -/
  | unknownRegister (n : Byte)
  /-- A stage byte of the bench's operand form other than 0, 1, 2 (log 13). -/
  | badStage (n : Byte)
  /-- Not accepted in the present `RUN` state (R250). -/
  | wrongState
  deriving DecidableEq, Repr, Inhabited

/-- The operations (30_encoding R111): eight host commands, thirteen micro-operations. -/
inductive Instr where
  | reset
  | cfgwr (reg : CfgReg) (value : List Byte)
  | start
  | push (data : List Byte)
  | eos
  | cancel
  | reanchor
  | statrd (reg : StatReg) (idx : BitVec 16)
  | lpfDesign (taps : Int) (cutoff : F64)
  | decStep (k : Stage) (s : Sample)
  | decRun (k : Stage) (run : List Sample)
  | ncoStep (s : Sample)
  | ncoRun (run : List Sample)
  | carrySplit (chunk : List Byte)
  | convS16 (bytes : List Byte)
  | convF32 (bytes : List Byte)
  | tsAnchor
  | tsHeader (i : Nat)
  | frmAccum (run : List Sample)
  | frmFlush
  | frmSend (bytes : List Byte)
  deriving DecidableEq, Repr, Inhabited

end Sys2Proof
end

