-- ==== Sys2Proof/WellFormed.lean ====
section
/-! DEFINITION. Which instructions have an encoding: the bounds the length and operand fields of
spec/30_encoding.md R110 put on operands (for micro-operations the model's operand forms, log 13). -/

namespace Sys2Proof

/-- The operand fits its field: a `U16` length for CFGWR, a `U32` length for PUSH (30_encoding R110)
and for the runs of the bench, a 64-bit two's-complement tap count, a `U64` sample index. -/
def Instr.wellFormed : Instr → Bool
  | .reset => true
  | .cfgwr _ value => decide (value.length < 2 ^ 16)
  | .start => true
  | .push data => decide (data.length < 2 ^ 32)
  | .eos => true
  | .cancel => true
  | .reanchor => true
  | .statrd _ _ => true
  | .lpfDesign taps _ => decide (-2 ^ 63 ≤ taps ∧ taps < 2 ^ 63)
  | .decStep _ _ => true
  | .decRun _ run => decide (run.length < 2 ^ 32)
  | .ncoStep _ => true
  | .ncoRun run => decide (run.length < 2 ^ 32)
  | .carrySplit chunk => decide (chunk.length < 2 ^ 32)
  | .convS16 bytes => decide (bytes.length < 2 ^ 32)
  | .convF32 bytes => decide (bytes.length < 2 ^ 32)
  | .tsAnchor => true
  | .tsHeader i => decide (i < 2 ^ 64)
  | .frmAccum run => decide (run.length < 2 ^ 32)
  | .frmFlush => true
  | .frmSend bytes => decide (bytes.length < 2 ^ 32)

/-- The well-formed instructions. -/
abbrev Instr.WF (i : Instr) : Prop := i.wellFormed = true

end Sys2Proof
end

