-- ==== Sys2Proof/Decode.lean ====
section
/-! DEFINITION. The byte encoding of the operations (spec/30_encoding.md R110 to R114): little-endian
fields, the decoder (total, rejecting by name), the encoder, and the opcode table's words. The host
commands' forms are the spec's; the operand forms of the micro-operations are the model's (log 13). -/

namespace Sys2Proof

/-- The natural number whose bytes are `bs`, the first byte least significant (30_encoding R110). -/
def leNat : List Byte → Nat
  | [] => 0
  | b :: bs => b.toNat + 256 * leNat bs

/-- The `k` low bytes of `n`, least significant first (30_encoding R110). -/
def bytesLE : Nat → Nat → List Byte
  | 0, _ => []
  | k + 1, n => BitVec.ofNat 8 n :: bytesLE k (n / 256)

/-- The samples whose words stand little-endian in `bs`, eight bytes each (log 13). -/
def samplesLE : List Byte → List Sample
  | a0 :: a1 :: a2 :: a3 :: b0 :: b1 :: b2 :: b3 :: rest =>
    ⟨BitVec.ofNat 32 (leNat [a0, a1, a2, a3]), BitVec.ofNat 32 (leNat [b0, b1, b2, b3])⟩
      :: samplesLE rest
  | _ => []

/-- A sample's words as eight little-endian bytes (log 13). -/
def sampleBytesLE (s : Sample) : List Byte :=
  bytesLE 4 s.re.toNat ++ bytesLE 4 s.im.toNat

/-- The register with a number (30_encoding R112), for CFGWR. -/
def cfgRegOf (n : Byte) : Option CfgReg :=
  match n.toNat with
  | 0x00 => some .rate
  | 0x01 => some .shiftKhz
  | 0x02 => some .pkt
  | 0x03 => some .chunk
  | 0x04 => some .addr
  | 0x05 => some .ports
  | 0x06 => some .enc
  | _ => none

/-- The number of a configuration register (30_encoding R112). -/
def cfgRegNumber : CfgReg → Byte
  | .rate => 0x00
  | .shiftKhz => 0x01
  | .pkt => 0x02
  | .chunk => 0x03
  | .addr => 0x04
  | .ports => 0x05
  | .enc => 0x06

/-- The register with a number (30_encoding R112), for STATRD. -/
def statRegOf (n : Byte) : Option StatReg :=
  match n.toNat with
  | 0x10 => some .run
  | 0x11 => some .status
  | 0x12 => some .cnt
  | 0x13 => some .dfail
  | 0x14 => some .accLen
  | 0x15 => some .carryLen
  | 0x16 => some .anchValid
  | 0x17 => some .anchSec
  | 0x18 => some .anchNsec
  | 0x19 => some .cause
  | 0x1A => some .causeInfo
  | _ => (cfgRegOf n).map .cfg

/-- The number of a register STATRD reads (30_encoding R112). -/
def statRegNumber : StatReg → Byte
  | .cfg r => cfgRegNumber r
  | .run => 0x10
  | .status => 0x11
  | .cnt => 0x12
  | .dfail => 0x13
  | .accLen => 0x14
  | .carryLen => 0x15
  | .anchValid => 0x16
  | .anchSec => 0x17
  | .anchNsec => 0x18
  | .cause => 0x19
  | .causeInfo => 0x1A

/-- The stage with a bench stage byte k - 1 (log 13). -/
def stageOf (n : Byte) : Option Stage :=
  match n.toNat with
  | 0 => some .s1
  | 1 => some .s2
  | 2 => some .s3
  | _ => none

/-- The bench's stage byte, k - 1 (log 13). -/
def stageNumber : Stage → Byte
  | .s1 => 0
  | .s2 => 1
  | .s3 => 2

/-- What the decoder reads at the head of a byte sequence: an operation and the bytes after it, the
beginning of an operation whose bytes are not all there, or a refusal by name. -/
inductive Decoded where
  | ok (i : Instr) (rest : List Byte)
  | incomplete
  | reject (why : Reject) (rest : List Byte)
  deriving DecidableEq, Repr

/-- The next `n` bytes, given on with what follows them. -/
def takeBytes (n : Nat) (bs : List Byte) (k : List Byte → List Byte → Decoded) : Decoded :=
  if n ≤ bs.length then k (bs.take n) (bs.drop n) else .incomplete

/-- A little-endian field of `n` bytes. -/
def takeLE (n : Nat) (bs : List Byte) (k : Nat → List Byte → Decoded) : Decoded :=
  takeBytes n bs fun field rest => k (leNat field) rest

/-- A `U32` length and as many bytes: the operand of format `B` (30_encoding R110). -/
def takeBlock (bs : List Byte) (k : List Byte → List Byte → Decoded) : Decoded :=
  takeLE 4 bs fun len rest => takeBytes len rest k

/-- A `U32` count and as many samples (log 13). -/
def takeRun (bs : List Byte) (k : List Sample → List Byte → Decoded) : Decoded :=
  takeLE 4 bs fun n rest => takeBytes (8 * n) rest fun field rest' => k (samplesLE field) rest'

/-- One byte. -/
def takeByte (bs : List Byte) (k : Byte → List Byte → Decoded) : Decoded :=
  match bs with
  | [] => .incomplete
  | b :: rest => k b rest

/-- A bench stage byte (log 13). -/
def takeStage (bs : List Byte) (k : Stage → List Byte → Decoded) : Decoded :=
  takeByte bs fun b rest =>
    match stageOf b with
    | some st => k st rest
    | none => .reject (.badStage b) rest

/-- One sample (log 13). -/
def takeSample (bs : List Byte) (k : Sample → List Byte → Decoded) : Decoded :=
  takeBytes 8 bs fun field rest => k ((samplesLE field).headD Sample.zero) rest

/-- The operation at the head of `bs` (30_encoding R110, R111, R113, R114). A CFGWR or STATRD with a
register number that R112 does not list is refused with all its bytes taken. -/
def decode : List Byte → Decoded
  | [] => .incomplete
  | op :: bs =>
    match op.toNat with
    | 0x00 => .ok .reset bs
    | 0x01 => takeByte bs fun n bs => takeLE 2 bs fun len bs => takeBytes len bs fun value rest =>
        match cfgRegOf n with
        | some reg => .ok (.cfgwr reg value) rest
        | none => .reject (.unknownRegister n) rest
    | 0x02 => .ok .start bs
    | 0x03 => takeBlock bs fun data rest => .ok (.push data) rest
    | 0x04 => .ok .eos bs
    | 0x05 => .ok .cancel bs
    | 0x06 => .ok .reanchor bs
    | 0x07 => takeByte bs fun n bs => takeLE 2 bs fun idx rest =>
        match statRegOf n with
        | some reg => .ok (.statrd reg (BitVec.ofNat 16 idx)) rest
        | none => .reject (.unknownRegister n) rest
    | 0x10 => takeLE 8 bs fun taps bs => takeLE 8 bs fun cutoff rest =>
        .ok (.lpfDesign (BitVec.ofNat 64 taps).toInt (BitVec.ofNat 64 cutoff)) rest
    | 0x20 => takeStage bs fun k bs => takeSample bs fun s rest => .ok (.decStep k s) rest
    | 0x21 => takeStage bs fun k bs => takeRun bs fun run rest => .ok (.decRun k run) rest
    | 0x30 => takeSample bs fun s rest => .ok (.ncoStep s) rest
    | 0x31 => takeRun bs fun run rest => .ok (.ncoRun run) rest
    | 0x40 => takeBlock bs fun chunk rest => .ok (.carrySplit chunk) rest
    | 0x41 => takeBlock bs fun bytes rest => .ok (.convS16 bytes) rest
    | 0x42 => takeBlock bs fun bytes rest => .ok (.convF32 bytes) rest
    | 0x50 => .ok .tsAnchor bs
    | 0x51 => takeLE 8 bs fun i rest => .ok (.tsHeader i) rest
    | 0x60 => takeRun bs fun run rest => .ok (.frmAccum run) rest
    | 0x61 => .ok .frmFlush bs
    | 0x62 => takeBlock bs fun bytes rest => .ok (.frmSend bytes) rest
    | _ => .reject (.unassignedCode op) bs

/-- The operation codes (30_encoding R111). -/
def opCode : Instr → Byte
  | .reset => 0x00
  | .cfgwr _ _ => 0x01
  | .start => 0x02
  | .push _ => 0x03
  | .eos => 0x04
  | .cancel => 0x05
  | .reanchor => 0x06
  | .statrd _ _ => 0x07
  | .lpfDesign _ _ => 0x10
  | .decStep _ _ => 0x20
  | .decRun _ _ => 0x21
  | .ncoStep _ => 0x30
  | .ncoRun _ => 0x31
  | .carrySplit _ => 0x40
  | .convS16 _ => 0x41
  | .convF32 _ => 0x42
  | .tsAnchor => 0x50
  | .tsHeader _ => 0x51
  | .frmAccum _ => 0x60
  | .frmFlush => 0x61
  | .frmSend _ => 0x62

/-- Is the operation issuable on the command port: codes 0x00 to 0x07 (30_encoding R113)? -/
def isHostCommand (i : Instr) : Bool := decide ((opCode i).toNat ≤ 7)

/-- A `U32` length and the bytes. -/
def blockBytes (bs : List Byte) : List Byte := bytesLE 4 bs.length ++ bs

/-- A `U32` count and the samples' bytes (log 13). -/
def runBytes (run : List Sample) : List Byte := bytesLE 4 run.length ++ run.flatMap sampleBytesLE

/-- The bytes after the operation code. -/
def operandBytes : Instr → List Byte
  | .cfgwr reg value => cfgRegNumber reg :: (bytesLE 2 value.length ++ value)
  | .push data => blockBytes data
  | .statrd reg idx => statRegNumber reg :: bytesLE 2 idx.toNat
  | .lpfDesign taps cutoff => bytesLE 8 (BitVec.ofInt 64 taps).toNat ++ bytesLE 8 cutoff.toNat
  | .decStep k s => stageNumber k :: sampleBytesLE s
  | .decRun k run => stageNumber k :: runBytes run
  | .ncoStep s => sampleBytesLE s
  | .ncoRun run => runBytes run
  | .carrySplit chunk => blockBytes chunk
  | .convS16 bytes => blockBytes bytes
  | .convF32 bytes => blockBytes bytes
  | .tsHeader i => bytesLE 8 i
  | .frmAccum run => runBytes run
  | .frmSend bytes => blockBytes bytes
  | .reset => []
  | .start => []
  | .eos => []
  | .cancel => []
  | .reanchor => []
  | .tsAnchor => []
  | .frmFlush => []

/-- The bytes of an instruction (30_encoding R110, R111). -/
def encode (i : Instr) : List Byte := opCode i :: operandBytes i

/-- The longest operand part an all-zero operand has: LPF.DESIGN's sixteen bytes. -/
def longestZeroOperand : Nat := 16

/-- The bytes of an opcode-table word: its `nbits` bits as bytes in table order, then operand bytes of
zeros up to the longest instruction. -/
def tableBytes (nbits w : Nat) : List Byte :=
  bytesLE ((nbits + 7) / 8) w ++ List.replicate longestZeroOperand 0

/-- The instruction the decoder reads from an opcode-table word. -/
def decodeTableWord (nbits w : Nat) : Option Instr :=
  match decode (tableBytes nbits w) with
  | .ok i _ => some i
  | .incomplete => none
  | .reject _ _ => none

end Sys2Proof
end

