-- ==== Sys2Proof/Config.lean ====
section
/-! DEFINITION. What an implementation fixes (spec/00_scope.md R7, R8, R16) and the free values:
constants without a body, so that nothing can be proved of a value of theirs. -/

namespace Sys2Proof

/-- The exit statuses of 10_state R42. -/
inductive ExitStatus where
  | none
  | ok
  | runtime
  | config
  deriving DecidableEq, Repr, Inhabited

/-- Which body a field of `NUM` has: the default body its rule gives, or any other function
(00_scope R16, R7). -/
inductive NumBody where
  | default
  | free
  deriving DecidableEq, Repr, Inhabited

/-- Which body `NUM.design` has (40_lowpass_designer R136): the default, any other function, or
hand-set coefficient vectors (95_test_vectors section 3), the first row of the wanted length
standing for the result and the free function where no row has it. -/
inductive DesignBody where
  | default
  | free
  | given (rows : List (List W32))
  deriving DecidableEq, Repr, Inhabited

/-- The six fields of the numerics record `NUM` (00_scope R16). -/
structure Numerics where
  design : DesignBody
  firDot : NumBody
  phaseStep : NumBody
  rotate : NumBody
  phaseAdvance : NumBody
  tsOffsetFloat : NumBody
  deriving DecidableEq, Repr, Inhabited

/-- One known answer of the platform's `cos` and `sin` (42_frequency_shifter R173). -/
structure TrigRow where
  angle : F64
  cos : F64
  sin : F64
  deriving DecidableEq, Repr, Inhabited

/-- The parameters of 00_scope R7, fixed before the first command and for ever (70 R323). `trig` is
what is known of the platform's library, angle by angle for angles above zero; every other angle is
`Config.cos64` and `Config.sin64`, within what log 4 says of a sine and a cosine. -/
structure Params where
  taps1 : Int
  taps2 : Int
  taps3 : Int
  cut1 : F64
  cut2 : F64
  cut3 : F64
  endian : Endian
  num : Numerics
  trig : List TrigRow
  pktMax : Option Nat
  statusCancelled : ExitStatus
  deriving DecidableEq, Repr, Inhabited

/-- `F[1] = 8`, `F[2] = 5`, `F[3] = 5` (00_scope R8). -/
def Config.factor : Stage → Nat
  | .s1 => 8
  | .s2 => 5
  | .s3 => 5

/-- `DECIM = 200` (00_scope R8). -/
def Config.decim : Nat := 200

/-- The nanoseconds per second (00_scope R8). -/
def Config.nsPerSec : Nat := 1000000000

/-- `TAPS[k]`: OPEN, no default (00_scope R7, 92 D6): any integers. Log 2. -/
opaque Config.taps : Stage → Int

/-- The platform's binary64 `cos` and `sin` at angles above zero (40 R136, 42 R173). Log 4. -/
opaque Config.cos64 : F64 → F64
/-- See `Config.cos64`. -/
opaque Config.sin64 : F64 → F64

/-- Where a NaN result comes from. -/
inductive NanSource where
  | add
  | mul
  | div
  | narrow
  deriving DecidableEq, Repr, Inhabited

/-- The pattern of a NaN result, which the spec leaves open (95 V-DEC-7). Log 5. -/
opaque Config.nan32 : NanSource → W32 → W32 → W32
/-- The pattern of a binary64 NaN result. Log 5. -/
opaque Config.nan64 : NanSource → F64 → F64 → F64
/-- The pattern of a NaN narrowed from binary64 to binary32. Log 5. -/
opaque Config.nanNarrow : F64 → W32

/-- `NUM.design` with an unknown body, coefficient by coefficient (40 R136). Log 3. -/
opaque Config.freeDesign : Nat → F64 → Nat → W32
/-- `NUM.fir_dot` with an unknown body (41 R154). Log 3. -/
opaque Config.freeFirDot : List W32 → List Sample → Sample
/-- `NUM.phase_step` with an unknown body (42 R171). Log 3. -/
opaque Config.freePhaseStep : F64 → F64 → F64
/-- `NUM.rotate` with an unknown body (42 R173). Log 3. -/
opaque Config.freeRotate : Sample → F64 → Sample
/-- `NUM.phase_advance` with an unknown body (42 R174). Log 3. -/
opaque Config.freePhaseAdvance : F64 → F64 → F64
/-- `NUM.ts_offset_float` with an unknown body (44 R214). Log 3. -/
opaque Config.freeTsOffset : Nat → Frac → Nat

/-- The phase where the default body's wrap loop never ends (42 R174). Log 7. -/
opaque Config.endlessWrap : F64 → F64 → F64
/-- The offset where the spec states none: on the floating path where the default body's quotient is not finite
(44 R214, log 8), on the integer path where `R_OUT` is 0 (R213, log 32). -/
opaque Config.unstatedOffset : Nat → Frac → Nat

/-- The n-th answer of `ClockRead()` not scripted in the state (44 R210, 92 D20). Log 9. -/
opaque Config.clock : Nat → Clock
/-- The n-th answer of `emit` not scripted in the state, true for `ok` (45 R234, 92 D23). Log 9. -/
opaque Config.emitOk : Nat → Bool
/-- The n-th answer of `SinkOpen` not scripted in the state, to the address and the port list handed over
(46 R253, 10_state R25, 92 D33). Log 9. -/
opaque Config.sinkOpen : Nat → List Byte → List Nat → Bool
/-- The host's predicate `parsable` on addresses (10_state R25, 92 D32). Log 10. -/
opaque Config.parsable : List Byte → Bool

end Sys2Proof
end

