-- ==== Sys2Proof/Machine/Float.lean ====
section
/-! DEFINITION. Binary32 and binary64 arithmetic, round to nearest, ties to even, for the default
bodies of `NUM` (spec/30_encoding.md R90, R91; 00_scope R14 `rnd32`; 41 R154, 42 R171 to R174,
44 R214). Values are exact integers times powers of two, rounded once at the end of each operation.
The pattern of a NaN result is free (95 V-DEC-7, log 5). -/

namespace Sys2Proof.Machine

/-- A binary interchange format: the widths of its exponent and fraction fields (30_encoding R90, R91). -/
structure Fmt where
  eb : Nat
  fb : Nat
  deriving DecidableEq, Repr

/-- binary32 (30_encoding R90). -/
def fmt32 : Fmt := ⟨8, 23⟩

/-- binary64 (30_encoding R91). -/
def fmt64 : Fmt := ⟨11, 52⟩

/-- The exponent bias. -/
def fmtBias (f : Fmt) : Nat := 2 ^ (f.eb - 1) - 1

/-- The exponent of the least subnormal: -149 for binary32, -1074 for binary64. -/
def fmtMinExp (f : Fmt) : Int := 1 - (fmtBias f : Int) - (f.fb : Int)

/-- The all-ones exponent field. -/
def fmtMaxField (f : Fmt) : Nat := 2 ^ f.eb - 1

/-- The pattern of +infinity. -/
def fmtInf (f : Fmt) : Nat := fmtMaxField f * 2 ^ f.fb

/-- The sign bit of a pattern set or clear. -/
def withSign (f : Fmt) (neg : Bool) (mag : Nat) : Nat :=
  if neg then 2 ^ (f.eb + f.fb) + mag else mag

/-- What a pattern stands for (30_encoding R90): a NaN, an infinity, or (-1)^neg · m · 2^e. -/
inductive FVal where
  | nan
  | inf (neg : Bool)
  | fin (neg : Bool) (m : Nat) (e : Int)
  deriving DecidableEq, Repr

/-- Read a pattern (30_encoding R90, R91). -/
def unpack (f : Fmt) (w : Nat) : FVal :=
  let neg := decide (w / 2 ^ (f.eb + f.fb) % 2 = 1)
  let field := w / 2 ^ f.fb % 2 ^ f.eb
  let frac := w % 2 ^ f.fb
  if field = fmtMaxField f then
    if frac = 0 then .inf neg else .nan
  else if field = 0 then .fin neg frac (fmtMinExp f)
  else .fin neg (2 ^ f.fb + frac) (field - 1 + fmtMinExp f)

/-- n / (d · 2^e) as a fraction of naturals. -/
def scaleBy (n d : Nat) (e : Int) : Nat × Nat :=
  if 0 ≤ e then (n, d * 2 ^ e.toNat) else (n * 2 ^ (-e).toNat, d)

/-- n / d to the nearest natural, ties to even. -/
def divNearest (n d : Nat) : Nat :=
  let q := n / d
  let r := n % d
  if d < 2 * r ∨ (d = 2 * r ∧ q % 2 = 1) then q + 1 else q

/-- The floor of the binary logarithm of n / d, for n and d positive. -/
def ratLog2 (n d : Nat) : Int :=
  let k : Int := (n.log2 : Int) - (d.log2 : Int)
  let sc := scaleBy n d k
  if sc.2 ≤ sc.1 then k else k - 1

/-- The pattern of m · 2^e where m is below 2^(fb+1), and 2^fb at least unless e is the least exponent:
overflow gives infinity. -/
def packMag (f : Fmt) (m : Nat) (e : Int) : Nat :=
  if m < 2 ^ f.fb then m
  else
    let field := (e - fmtMinExp f).toNat + 1
    if fmtMaxField f ≤ field then fmtInf f else field * 2 ^ f.fb + (m - 2 ^ f.fb)

/-- The magnitude pattern nearest n / d, ties to even (00_scope R14 `rnd32`), for d positive. -/
def roundMag (f : Fmt) (n d : Nat) : Nat :=
  if n = 0 then 0
  else
    let e := max (ratLog2 n d - f.fb) (fmtMinExp f)
    let sc := scaleBy n d e
    let q := divNearest sc.1 sc.2
    if q = 2 ^ (f.fb + 1) then packMag f (2 ^ f.fb) (e + 1) else packMag f q e

/-- The pattern nearest (-1)^neg · m · 2^e. -/
def roundFin (f : Fmt) (neg : Bool) (m : Nat) (e : Int) : Nat :=
  let sc := scaleBy m 1 (-e)
  withSign f neg (roundMag f sc.1 sc.2)

/-- The signed integer (-1)^neg · m. -/
def signed (neg : Bool) (m : Nat) : Int := if neg then -(m : Int) else m

/-- The integer of a finite value scaled to a common exponent e0 that is not above its own. -/
def alignTo (e0 : Int) (neg : Bool) (m : Nat) (e : Int) : Int :=
  signed neg (m * 2 ^ (e - e0).toNat)

/-- An exact sum or product of two values, or a NaN, which `none` stands for. -/
def addPattern (f : Fmt) (a b : FVal) : Option Nat :=
  match a, b with
  | .nan, _ => none
  | .inf _, .nan => none
  | .fin _ _ _, .nan => none
  | .inf sa, .inf sb => if sa = sb then some (withSign f sa (fmtInf f)) else none
  | .inf sa, .fin _ _ _ => some (withSign f sa (fmtInf f))
  | .fin _ _ _, .inf sb => some (withSign f sb (fmtInf f))
  | .fin sa ma ea, .fin sb mb eb =>
    let e0 := min ea eb
    let z := alignTo e0 sa ma ea + alignTo e0 sb mb eb
    if z = 0 then some (withSign f (sa && sb) 0)
    else some (roundFin f (decide (z < 0)) z.natAbs e0)

/-- The product, `none` for a NaN. -/
def mulPattern (f : Fmt) (a b : FVal) : Option Nat :=
  match a, b with
  | .nan, _ => none
  | .inf _, .nan => none
  | .fin _ _ _, .nan => none
  | .inf sa, .inf sb => some (withSign f (sa ^^ sb) (fmtInf f))
  | .inf sa, .fin sb mb _ => if mb = 0 then none else some (withSign f (sa ^^ sb) (fmtInf f))
  | .fin sa ma _, .inf sb => if ma = 0 then none else some (withSign f (sa ^^ sb) (fmtInf f))
  | .fin sa ma ea, .fin sb mb eb => some (roundFin f (sa ^^ sb) (ma * mb) (ea + eb))

/-- The quotient, `none` for a NaN. -/
def divPattern (f : Fmt) (a b : FVal) : Option Nat :=
  match a, b with
  | .nan, _ => none
  | .inf _, .nan => none
  | .fin _ _ _, .nan => none
  | .inf _, .inf _ => none
  | .inf sa, .fin sb _ _ => some (withSign f (sa ^^ sb) (fmtInf f))
  | .fin sa _ _, .inf sb => some (withSign f (sa ^^ sb) 0)
  | .fin sa ma ea, .fin sb mb eb =>
    if mb = 0 then if ma = 0 then none else some (withSign f (sa ^^ sb) (fmtInf f))
    else
      let sc := scaleBy ma mb (eb - ea)
      some (withSign f (sa ^^ sb) (roundMag f sc.1 sc.2))

/-- a < b as values; false where either is a NaN. -/
def ltVal (a b : FVal) : Bool :=
  match a, b with
  | .nan, _ => false
  | .inf _, .nan => false
  | .fin _ _ _, .nan => false
  | .inf sa, .inf sb => sa && !sb
  | .inf sa, .fin _ _ _ => sa
  | .fin _ _ _, .inf sb => !sb
  | .fin sa ma ea, .fin sb mb eb =>
    decide (alignTo (min ea eb) sa ma ea < alignTo (min ea eb) sb mb eb)

/-- Is a binary32 word a NaN (30_encoding R90)? -/
def isNan32 (w : W32) : Bool := decide (unpack fmt32 w.toNat = .nan)

/-- Is a binary64 word a NaN (30_encoding R91)? -/
def isNan64 (w : F64) : Bool := decide (unpack fmt64 w.toNat = .nan)

/-- Some NaN word: the free pattern where it is a NaN's, so that the result is always a NaN. Log 5. -/
def someNan32 (free : W32) : W32 := if isNan32 free then free else 0x7FC00000

/-- Some binary64 NaN word. Log 5. -/
def someNan64 (free : F64) : F64 := if isNan64 free then free else 0x7FF8000000000000

/-- A binary32 result, or a NaN. -/
def result32 (src : NanSource) (a b : W32) : Option Nat → W32
  | some p => BitVec.ofNat 32 p
  | none => someNan32 (Config.nan32 src a b)

/-- A binary64 result, or a NaN. -/
def result64 (src : NanSource) (a b : F64) : Option Nat → F64
  | some p => BitVec.ofNat 64 p
  | none => someNan64 (Config.nan64 src a b)

/-- `rnd32(a + b)` (41 R154). -/
def f32Add (a b : W32) : W32 :=
  result32 .add a b (addPattern fmt32 (unpack fmt32 a.toNat) (unpack fmt32 b.toNat))

/-- `rnd32(a × b)` (41 R154). -/
def f32Mul (a b : W32) : W32 :=
  result32 .mul a b (mulPattern fmt32 (unpack fmt32 a.toNat) (unpack fmt32 b.toNat))

/-- The word with its sign bit changed. -/
def f32Neg (a : W32) : W32 := a ^^^ 0x80000000

/-- `rnd32(a − b)` (42 R173). -/
def f32Sub (a b : W32) : W32 := f32Add a (f32Neg b)

/-- The binary64 sum. -/
def f64Add (a b : F64) : F64 :=
  result64 .add a b (addPattern fmt64 (unpack fmt64 a.toNat) (unpack fmt64 b.toNat))

/-- The binary64 word with its sign bit changed. -/
def f64Neg (a : F64) : F64 := a ^^^ 0x8000000000000000

/-- The binary64 word with its sign bit clear. -/
def f64Abs (a : F64) : F64 := a &&& 0x7FFFFFFFFFFFFFFF

/-- The sign bit of a binary64 word. -/
def f64Sign (a : F64) : Bool := a.getLsbD 63

/-- The binary64 difference. -/
def f64Sub (a b : F64) : F64 := f64Add a (f64Neg b)

/-- The binary64 product. -/
def f64Mul (a b : F64) : F64 :=
  result64 .mul a b (mulPattern fmt64 (unpack fmt64 a.toNat) (unpack fmt64 b.toNat))

/-- The binary64 quotient. -/
def f64Div (a b : F64) : F64 :=
  result64 .div a b (divPattern fmt64 (unpack fmt64 a.toNat) (unpack fmt64 b.toNat))

/-- a < b in binary64. -/
def f64Lt (a b : F64) : Bool := ltVal (unpack fmt64 a.toNat) (unpack fmt64 b.toNat)

/-- Does the word compare equal to zero: +0 and −0 (10_state R32)? -/
def f64IsZero (a : F64) : Bool :=
  match unpack fmt64 a.toNat with
  | .fin _ m _ => decide (m = 0)
  | .nan => false
  | .inf _ => false

/-- Is the word finite (30_encoding R91)? -/
def f64IsFinite (a : F64) : Bool :=
  match unpack fmt64 a.toNat with
  | .fin _ _ _ => true
  | .nan => false
  | .inf _ => false

/-- The binary64 value nearest a natural number. -/
def f64OfNat (n : Nat) : F64 := BitVec.ofNat 64 (roundMag fmt64 n 1)

/-- The binary64 value nearest an integer. -/
def f64OfInt (z : Int) : F64 := BitVec.ofNat 64 (withSign fmt64 (decide (z < 0)) (roundMag fmt64 z.natAbs 1))

/-- The binary64 value nearest a fraction. -/
def f64OfFrac (q : Frac) : F64 := BitVec.ofNat 64 (roundMag fmt64 q.num q.den)

/-- The binary64 word for a constant of the spec given by its numerator and denominator. -/
def f64Const (n d : Nat) : F64 := BitVec.ofNat 64 (roundMag fmt64 n d)

/-- `rnd32` of a binary64 word (00_scope R14). -/
def f64ToF32 (a : F64) : W32 :=
  match unpack fmt64 a.toNat with
  | .nan => someNan32 (Config.nanNarrow a)
  | .inf s => BitVec.ofNat 32 (withSign fmt32 s (fmtInf fmt32))
  | .fin s m e => BitVec.ofNat 32 (roundFin fmt32 s m e)

/-- The floor of a finite binary64 value that is not negative, `none` for every other word. -/
def f64Floor (a : F64) : Option Nat :=
  match unpack fmt64 a.toNat with
  | .nan => none
  | .inf _ => none
  | .fin s m e =>
    let sc := scaleBy m 1 (-e)
    if s ∧ m ≠ 0 then none else some (sc.1 / sc.2)

/-- The exact value of a finite binary64 word that is not negative, as a fraction. -/
def f64Frac (a : F64) : Option Frac :=
  match unpack fmt64 a.toNat with
  | .nan => none
  | .inf _ => none
  | .fin s m e =>
    let sc := scaleBy m 1 (-e)
    if s ∧ m ≠ 0 then none else some ⟨sc.1, sc.2⟩

end Sys2Proof.Machine
end

