-- ==== Sys2Proof/Machine/Taps.lean ====
section
/-! DEFINITION. The effective tap counts `T[k]` (spec/00_scope.md R8, 40_lowpass_designer R131): the length of a
stage's coefficient vector and history, known from the parameters alone. -/

namespace Sys2Proof.Machine

/-- `coerce(taps)`: the next odd value that is 3 or more (40 R131). -/
def coerceTaps (taps : Int) : Nat :=
  if taps < 3 then 3 else if taps % 2 = 1 then taps.toNat else taps.toNat + 1

/-- `TAPS[k]` (00_scope R7). -/
def tapsOf (p : Params) : Stage → Int
  | .s1 => p.taps1
  | .s2 => p.taps2
  | .s3 => p.taps3

end Sys2Proof.Machine
end

