-- ==== Sys2Proof/Machine/State.lean ====
section
/-! DEFINITION. The state of AHD-CORE (spec/10_state.md R20 to R49, R47 for the observation), its
reset (R48, 70_reset_and_hazards R321), and the reasons for which a step stops. Every register holds a value
after reset. Where R48 says `unwritten` or `unallocated` and gives no value, the value is the model's (log 18); a
configuration register keeps the state `unwritten` as well, `none`, because START tests for it (R20, 46 R253). -/

namespace Sys2Proof.Machine

/-- The configuration registers (10_state R20 to R27), `none` in the state `unwritten` of R20, which START reports
(46 R253) and STATRD answers as 0 (30_encoding R112); so does every other read of one (log 18). -/
structure CfgRegs where
  rate : Option F64
  shiftKhz : Option F64
  pkt : Option Nat
  chunk : Option Nat
  addr : Option (List Byte)
  ports : Option (List Nat)
  enc : Option (BitVec 8)
  deriving DecidableEq, Repr

/-- The derived constants (10_state R28), loaded by START; `rOut` is loaded where `rateInt` is. -/
structure Derived where
  shiftHz : F64
  bps : Nat
  ndest : Nat
  fsOut : Frac
  rateInt : Bool
  rOut : Nat
  deriving DecidableEq, Repr

/-- The oscillator (10_state R30 to R32). -/
structure Nco where
  phase : F64
  step : F64
  bypass : Bool
  deriving DecidableEq, Repr

/-- One decimator stage (10_state R33 to R36): `T[k]` coefficients, `T[k]` history samples, the cursor and the
decimation phase. -/
structure Dec where
  coef : List W32
  hist : List Sample
  cur : Nat
  ph : Nat
  deriving DecidableEq, Repr

/-- The timestamp anchor (10_state R39). -/
structure Anchor where
  valid : Bool
  sec : Nat
  nsec : Nat
  deriving DecidableEq, Repr

/-- The lifecycle register's values (10_state R41). -/
inductive RunState where
  | unconfigured
  | running
  | done
  | failed
  deriving DecidableEq, Repr, Inhabited

/-- One delivery: destination, bytes, and whether the host answered `ok` (10_state R47). -/
structure Event where
  dest : Nat
  bytes : List Byte
  ok : Bool
  deriving DecidableEq, Repr

/-- What the last operation handed back to the one who issued it. Log 15. -/
inductive Resp where
  /-- Nothing since reset. -/
  | idle
  /-- Done, with no result. -/
  | done
  /-- The eight bytes STATRD answers (46_pipeline_control R254). -/
  | answer (value : BitVec 64)
  /-- Refused without effect (46 R250, 30_encoding R113). -/
  | refused (why : Reject)
  /-- A fatal error was raised (60_exceptions R290). -/
  | raised
  /-- LPF.DESIGN's coefficients. -/
  | coefs (h : List W32)
  /-- DEC.STEP's result. -/
  | output (y : Option Sample)
  /-- The samples a micro-operation returns. -/
  | samples (run : List Sample)
  /-- The bytes a micro-operation returns. -/
  | bytes (b : List Byte)
  deriving DecidableEq, Repr

/-- How many answers of each kind (70_reset_and_hazards R325). -/
structure AnswerCounts where
  parsable : Nat
  sinkOpen : Nat
  clock : Nat
  emit : Nat
  deriving DecidableEq, Repr

/-- The host's answers (70_reset_and_hazards R325): those still to come, in order, and how many of
each kind have been given (log 9); how many it will have given in all, `none` for a host that meets
its duty to answer, and whether a command in progress waits for an answer (log 41). -/
structure HostSide where
  parsable : List Bool
  sinkOpen : List Bool
  clock : List Clock
  emits : List Bool
  nParsable : Nat
  nSinkOpen : Nat
  nClock : Nat
  nEmit : Nat
  limit : Option AnswerCounts
  waiting : Bool
  deriving DecidableEq, Repr

/-- The reasons for which the machine stops. -/
inductive Fault where
  /-- Raised by FRM.FLUSH when the queue holds fewer than `CFG_PKT - 1` samples, against its stated
  precondition (45_framer_streamer R231); the flush loop never does. Safe. -/
  | flushPrecondition
  /-- Raised by the flush loop when `CFG_PKT` is below 2, where its pseudocode never ends
  (45_framer_streamer R233); START admits no such value. Safe. -/
  | flushNeverEnds
  deriving DecidableEq, Repr, Inhabited

/-- The reasons for which the model gives an instruction no meaning. -/
inductive Refusal where
  /-- An instruction that has no meaning yet; no arm of `exec` answers it. Safe. -/
  | notModelled (mnemonic : String)
  deriving DecidableEq, Repr

/-- The termination signal (60_exceptions R286): not raised, raised and not yet taken, or taken as the
CANCEL that ended the run, to be cleared by RESET alone. Log 20. -/
inductive TermSignal where
  | clear
  | pending
  | taken
  deriving DecidableEq, Repr

/-- The whole state. `dfail` is one counter per destination, a destination beyond the list having counted nothing
(10_state R40, log 18). `rst` is a reset signal raised and not yet taken (70_reset_and_hazards R320). The fields
`resp`, `port`, `bench`, `host` and `params` are the model's own, not the spec's (INVENTORY.md). -/
structure State where
  cfg : CfgRegs
  der : Derived
  carry : List Byte
  nco : Nco
  dec1 : Dec
  dec2 : Dec
  dec3 : Dec
  acc : List Sample
  cnt : Nat
  anch : Anchor
  dfail : List Nat
  run : RunState
  status : ExitStatus
  cause : BitVec 8
  causeInfo : BitVec 64
  term : TermSignal
  rst : Bool
  out : List Event
  resp : Resp
  port : List Byte
  bench : List Byte
  host : HostSide
  params : Params
  deriving DecidableEq, Repr

/-- No configuration register written (10_state R20, R48). -/
def CfgRegs.unwritten : CfgRegs := ⟨none, none, none, none, none, none, none⟩

/-- The derived constants after RESET, which R48 calls unwritten: what 10_state R28 derives from configuration
registers that all read 0, so `SHIFT_HZ` +0.0, `BPS` 4, `NDEST` 0, `FS_OUT` 0, `RATE_INT` 1, `R_OUT` 0.
DESIGN CHOICE, log 18. -/
def Derived.reset : Derived := ⟨0, 4, 0, ⟨0, 1⟩, true, 0⟩

/-- The oscillator after RESET: phase +0.0 (10_state R30, R48). The step +0.0 and the bypass 1, as R32 has it for a
`SHIFT_HZ` of zero, are the model's. DESIGN CHOICE, log 18. -/
def Nco.reset : Nco := ⟨0, 0, true⟩

/-- Stage k after RESET: cursor and phase 0 (10_state R35, R36, R48). `T[k]` zero samples, the contents R34 gives the
history, and `T[k]` zero coefficients are the model's, R48 leaving both out. DESIGN CHOICE, log 18. -/
def Dec.reset (p : Params) (k : Stage) : Dec :=
  { coef := List.replicate (coerceTaps (tapsOf p k)) 0
    hist := List.replicate (coerceTaps (tapsOf p k)) Sample.zero
    cur := 0
    ph := 0 }

/-- The anchor after RESET: not valid (10_state R39, R48). Both fields 0 is the model's. DESIGN CHOICE, log 18. -/
def Anchor.reset : Anchor := ⟨false, 0, 0⟩

/-- A host that has given no answer, has none scripted, and meets its duty to answer. DESIGN CHOICE,
logs 9 and 41. -/
def HostSide.fresh : HostSide := ⟨[], [], [], [], 0, 0, 0, 0, none, false⟩

/-- The default bodies throughout (00_scope R7). -/
def Numerics.default : Numerics := ⟨.default, .default, .default, .default, .default, .default⟩

/-- The parameters at reset: the defaults of 00_scope R7 (`CUT[k]` the binary64 values nearest 0.45/8,
0.45/5, 0.45/5, 92 D7), `TAPS[k]` free. DESIGN CHOICE, logs 1 and 2. -/
def Params.default : Params where
  taps1 := Config.taps .s1
  taps2 := Config.taps .s2
  taps3 := Config.taps .s3
  cut1 := 0x3FACCCCCCCCCCCCD
  cut2 := 0x3FB70A3D70A3D70A
  cut3 := 0x3FB70A3D70A3D70A
  endian := .little
  num := Numerics.default
  trig := []
  pktMax := none
  statusCancelled := .ok

/-- The state after reset: the column "after RESET" of 10_state R48, and the model's own fields as
logs 1, 9, 12, 13, 15 and 18 say. -/
def State.reset : State where
  cfg := CfgRegs.unwritten
  der := Derived.reset
  carry := []
  nco := Nco.reset
  dec1 := Dec.reset Params.default .s1
  dec2 := Dec.reset Params.default .s2
  dec3 := Dec.reset Params.default .s3
  acc := []
  cnt := 0
  anch := Anchor.reset
  dfail := []
  run := .unconfigured
  status := .none
  cause := 0
  causeInfo := 0
  term := .clear
  rst := false
  out := []
  resp := .idle
  port := []
  bench := []
  host := HostSide.fresh
  params := Params.default

end Sys2Proof.Machine
end

