-- ==== Sys2Proof/Machine/Ops.lean ====
section
/-! DEFINITION. The shared operations over the state: how an operation ends, reading a configuration register
(spec/10_state.md R20), the entry into the failed state (60_exceptions R290) and the way out of it
(RESET, R291, 70 R320), the refusal without effect (46 R250), the host's answers (70 R325), and what
the host does to the block from outside. -/

namespace Sys2Proof.Machine

/-- How an operation ends: with a value and a state, in the failed state after a `raise`
(60_exceptions R290), or in a fault of the model. -/
inductive Res (α : Type) where
  | ok (a : α) (s : State)
  | raised (s : State)
  | fault (f : Fault)

/-- Go on only where the operation gave a value: a `raise` ends the command at once (00_scope R15). -/
def Res.bind {α β : Type} (r : Res α) (k : α → State → Res β) : Res β :=
  match r with
  | .ok a s => k a s
  | .raised s => .raised s
  | .fault f => .fault f

/-- What the last operation handed back. -/
def State.respond (s : State) (r : Resp) : State := { s with resp := r }

/-- The outcome of a step that runs one operation and hands its value back. -/
def Res.outcome {α : Type} (r : Res α) (view : α → Resp) : Host.Outcome State Fault Refusal :=
  match r with
  | .ok a s => .next (s.respond (view a))
  | .raised s => .next s
  | .fault f => .fault f

/-- The outcome of a step that runs an operation which always gives a value, and hands that value back. -/
def handBack {α : Type} (r : α × State) (view : α → Resp) : Host.Outcome State Fault Refusal :=
  .next (r.2.respond (view r.1))

/-- `CFG_PKT` as the framer reads it (10_state R23): 0 while unwritten, as STATRD answers (30_encoding R112).
DESIGN CHOICE, log 18. -/
def State.pktValue (s : State) : Nat := s.cfg.pkt.getD 0

/-- `CFG_ENC` as the converter reads it (10_state R27): 0 while unwritten, as STATRD answers (30_encoding R112).
DESIGN CHOICE, log 18. -/
def State.encValue (s : State) : BitVec 8 := s.cfg.enc.getD 0

/-- The classes of fatal error (60_exceptions R280). -/
inductive Err where
  | config
  | alignment
  | runtime
  deriving DecidableEq, Repr

/-- The cause code (60_exceptions R280). -/
def errCode : Err → BitVec 8
  | .config => 1
  | .alignment => 2
  | .runtime => 3

/-- The exit status an error leaves (60_exceptions R280, R290). -/
def errStatus : Err → ExitStatus
  | .config => .config
  | .alignment => .runtime
  | .runtime => .runtime

/-- Taking a fatal error (60_exceptions R290): cause, info, status and lifecycle register are written,
nothing else is saved, restored or rolled back. -/
def takeError (e : Err) (info : Nat) (s : State) : State :=
  { s with cause := errCode e, causeInfo := BitVec.ofNat 64 info, status := errStatus e,
           run := .failed, resp := .raised }

/-- The state a reset signal or RESET leaves (10_state R48, 70 R320), the only way out of the failed
state (60 R291): every piece of the block's state at its reset value, `OUT` afresh (46 R251). The
host's answers, the bytes waiting and the parameters are not the block's state and stay. Log 29. -/
def State.afterReset (s : State) : State :=
  { State.reset with
    dec1 := Dec.reset s.params .s1
    dec2 := Dec.reset s.params .s2
    dec3 := Dec.reset s.params .s3
    port := s.port
    bench := s.bench
    host := s.host
    params := s.params }

/-- A refusal: no state of the block changes, no event, no error (46 R250, 30 R113). Log 11. -/
def State.refuse (s : State) (why : Reject) : State := s.respond (.refused why)

/-- Run a command only in the lifecycle state that accepts it (46 R250), else refuse it. -/
def acceptedIn (r : RunState) (s : State) (go : Host.Outcome State Fault Refusal) :
    Host.Outcome State Fault Refusal :=
  if s.run = r then go else .next (s.refuse .wrongState)

/-- The state of stage k. -/
def State.dec (s : State) : Stage → Dec
  | .s1 => s.dec1
  | .s2 => s.dec2
  | .s3 => s.dec3

/-- Write the state of stage k. -/
def State.setDec (s : State) (k : Stage) (d : Dec) : State :=
  match k with
  | .s1 => { s with dec1 := d }
  | .s2 => { s with dec2 := d }
  | .s3 => { s with dec3 := d }

/-- `ClockRead()` (00_scope R15): the next scripted answer, else the free one. Log 9. -/
def askClock (s : State) : Clock × State :=
  match s.host.clock with
  | c :: rest => (c, { s with host := { s.host with clock := rest, nClock := s.host.nClock + 1 } })
  | [] => (Config.clock s.host.nClock, { s with host := { s.host with nClock := s.host.nClock + 1 } })

/-- The answer to one `emit` (00_scope R15), true for `ok`. Log 9. -/
def askEmit (s : State) : Bool × State :=
  match s.host.emits with
  | b :: rest => (b, { s with host := { s.host with emits := rest, nEmit := s.host.nEmit + 1 } })
  | [] => (Config.emitOk s.host.nEmit, { s with host := { s.host with nEmit := s.host.nEmit + 1 } })

/-- The answer of `SinkOpen` to the address and the port list the block hands to the datagram port
(46 R253, 10_state R25, 70 R325), true for `ok`. Log 9. -/
def askSinkOpen (addr : List Byte) (ports : List Nat) (s : State) : Bool × State :=
  match s.host.sinkOpen with
  | b :: rest =>
    (b, { s with host := { s.host with sinkOpen := rest, nSinkOpen := s.host.nSinkOpen + 1 } })
  | [] =>
    (Config.sinkOpen s.host.nSinkOpen addr ports,
      { s with host := { s.host with nSinkOpen := s.host.nSinkOpen + 1 } })

/-- The host's judgement `parsable(addr)` (10_state R25): a scripted answer, else the free predicate.
Log 10. -/
def askParsable (addr : List Byte) (s : State) : Bool × State :=
  match s.host.parsable with
  | b :: rest =>
    (b, { s with host := { s.host with parsable := rest, nParsable := s.host.nParsable + 1 } })
  | [] =>
    (Config.parsable addr, { s with host := { s.host with nParsable := s.host.nParsable + 1 } })

/-- The host puts bytes on the command port (30_encoding R110). -/
def State.issue (s : State) (bytes : List Byte) : State := { s with port := s.port ++ bytes }

/-- The host raises the termination signal (60_exceptions R286): pending in a run, and in any state but
DONE while a command is in progress, a START that may begin the run among them (R288 (c)); else refused
as CANCEL is. A command whose bytes stand on the port, but which no step has begun, is not in progress: the
spec has no queue of commands and does not say. DESIGN CHOICE, log 42. -/
def State.raiseTermination (s : State) : State :=
  if s.run = .running ∨ (s.host.waiting = true ∧ s.run ≠ .done) then { s with term := .pending }
  else s.refuse .wrongState

/-- The pending termination signal is given up to the CANCEL it is taken as: in a run it stays taken until
RESET, elsewhere that CANCEL is refused and leaves nothing (60 R286). Log 20. -/
def State.settleTermination (s : State) : State :=
  { s with term := if s.run = .running then .taken else .clear }

/-- The host raises the reset signal (70_reset_and_hazards R320): it is taken by a step, between commands.
Logs 21 and 42. -/
def State.raiseReset (s : State) : State := { s with rst := true }

/-- The host says how many answers of each kind it will have given in all: `none` where it meets its duty
to answer (70_reset_and_hazards R325). Log 41. -/
def State.undertake (s : State) (limit : Option AnswerCounts) : State :=
  { s with host := { s.host with limit := limit } }

/-- Whether a command in progress waits for an answer of the host (70 R325). Log 41. -/
def State.setWaiting (s : State) (waiting : Bool) : State :=
  { s with host := { s.host with waiting := waiting } }

/-- Was an answer asked for, between two counts, that the host does not give? -/
def unanswered (before after limit : Nat) : Bool := decide (before < after ∧ limit < after)

/-- Does the host owe an answer to the command that took its side from `h` to `h'` (70 R325)? -/
def HostSide.owes (h h' : HostSide) : Bool :=
  match h.limit with
  | none => false
  | some m =>
    unanswered h.nParsable h'.nParsable m.parsable ||
      unanswered h.nSinkOpen h'.nSinkOpen m.sinkOpen ||
      unanswered h.nClock h'.nClock m.clock ||
      unanswered h.nEmit h'.nEmit m.emit

end Sys2Proof.Machine
end

