-- ==== Sys2Proof/Machine/Operands.lean ====
section
/-! DEFINITION. Operand forms: byte order (spec/00_scope.md R14, 20_memory R67, R68), the two input
sample formats (30_encoding R92, R93, R97), the wire format (R94 to R96), and the value encodings of
CFGWR and STATRD (R112, R118). -/

namespace Sys2Proof.Machine

/-- `word_E(b0, b1, b2, b3)` (00_scope R14). -/
def wordE (e : Endian) (b0 b1 b2 b3 : Byte) : W32 :=
  match e with
  | .little => b3 ++ b2 ++ b1 ++ b0
  | .big => b0 ++ b1 ++ b2 ++ b3

/-- `bytes_E(w)` (00_scope R14). -/
def bytesE (e : Endian) (w : W32) : List Byte :=
  let b0 := w.extractLsb' 0 8
  let b1 := w.extractLsb' 8 8
  let b2 := w.extractLsb' 16 8
  let b3 := w.extractLsb' 24 8
  match e with
  | .little => [b0, b1, b2, b3]
  | .big => [b3, b2, b1, b0]

/-- Format `SMP`, one sample on the wire (30_encoding R94). -/
def sampleBytes (e : Endian) (s : Sample) : List Byte := bytesE e s.re ++ bytesE e s.im

/-- `serialise(frame)` (45_framer_streamer R232, 30_encoding R96). -/
def serialise (e : Endian) (frame : List Sample) : List Byte := frame.flatMap (sampleBytes e)

/-- `s16(lo, hi)` (00_scope R14). -/
def s16 (lo hi : Byte) : Int := (hi ++ lo).toInt

/-- `bits32(v / 32768)` for a 16-bit integer v, an exact division (43_sample_converter R191). -/
def s16Float (v : Int) : W32 :=
  if v = 0 then 0
  else BitVec.ofNat 32 (withSign fmt32 (decide (v < 0)) (roundMag fmt32 v.natAbs 32768))

/-- The samples of a whole-sample run in format `IQ16` (30_encoding R92, 43 R191). -/
def samplesS16 : List Byte → List Sample
  | b0 :: b1 :: b2 :: b3 :: rest => ⟨s16Float (s16 b0 b1), s16Float (s16 b2 b3)⟩ :: samplesS16 rest
  | _ => []

/-- The samples of a whole-sample run in format `IQ32` (30_encoding R93, 43 R192). -/
def samplesF32 (e : Endian) : List Byte → List Sample
  | b0 :: b1 :: b2 :: b3 :: b4 :: b5 :: b6 :: b7 :: rest =>
    ⟨wordE e b0 b1 b2 b3, wordE e b4 b5 b6 b7⟩ :: samplesF32 e rest
  | _ => []

/-- A `U64` value of CFGWR: exactly eight bytes (30_encoding R112). -/
def u64Value (value : List Byte) : Option Nat :=
  if value.length = 8 then some (leNat value) else none

/-- An `F64` bit pattern of CFGWR: exactly eight bytes (30_encoding R112). -/
def f64Value (value : List Byte) : Option F64 := (u64Value value).map (BitVec.ofNat 64)

/-- The port list of CFGWR: `2 × n` bytes, n entries of `U16`, entry 0 first (30_encoding R112). -/
def portsValue : List Byte → Option (List Nat)
  | [] => some []
  | [_] => none
  | lo :: hi :: rest => (portsValue rest).map (leNat [lo, hi] :: ·)

/-- A `U8` value of CFGWR: exactly one byte (30_encoding R112). -/
def u8Value : List Byte → Option (BitVec 8)
  | [b] => some b
  | _ => none

/-- A written value, or what the register held where the length does not match the table
(30_encoding R112, 46 R252). Log 16. -/
def written {α : Type} (new old : Option α) : Option α :=
  match new with
  | some a => some a
  | none => old

/-- CFGWR's effect on the configuration registers (46_pipeline_control R252, 30_encoding R112). -/
def cfgWrite (reg : CfgReg) (value : List Byte) (c : CfgRegs) : CfgRegs :=
  match reg with
  | .rate => { c with rate := written (f64Value value) c.rate }
  | .shiftKhz => { c with shiftKhz := written (f64Value value) c.shiftKhz }
  | .pkt => { c with pkt := written (u64Value value) c.pkt }
  | .chunk => { c with chunk := written (u64Value value) c.chunk }
  | .addr => { c with addr := some value }
  | .ports => { c with ports := written (portsValue value) c.ports }
  | .enc => { c with enc := written (u8Value value) c.enc }

/-- `STATRD`'s number for the lifecycle register (30_encoding R112). -/
def runNumber : RunState → Nat
  | .unconfigured => 0
  | .running => 1
  | .done => 2
  | .failed => 3

/-- `STATRD`'s number for the exit status (30_encoding R118). -/
def statusNumber : ExitStatus → BitVec 64
  | .none => 0xFFFFFFFFFFFFFFFF
  | .ok => 0
  | .runtime => 1
  | .config => 2

/-- `STATRD`'s answer for a configuration register, 0 while unwritten (30_encoding R112). -/
def cfgAnswer (c : CfgRegs) (idx : Nat) : CfgReg → BitVec 64
  | .rate => c.rate.getD 0
  | .shiftKhz => c.shiftKhz.getD 0
  | .pkt => BitVec.ofNat 64 (c.pkt.getD 0)
  | .chunk => BitVec.ofNat 64 (c.chunk.getD 0)
  | .addr => BitVec.ofNat 64 ((c.addr.map List.length).getD 0)
  | .ports => BitVec.ofNat 64 ((c.ports.getD []).getD idx 0)
  | .enc => (c.enc.getD 0).setWidth 64

/-- A field of the anchor as STATRD reads it, 0 while the anchor is not valid (30_encoding R112). -/
def anchorAnswer (a : Anchor) (field : Nat) : BitVec 64 :=
  if a.valid then BitVec.ofNat 64 field else 0

/-- `STATRD`'s answer (46_pipeline_control R254, 30_encoding R112). Logs 19 and 23. -/
def statAnswer (s : State) (reg : StatReg) (idx : BitVec 16) : BitVec 64 :=
  match reg with
  | .cfg r => cfgAnswer s.cfg idx.toNat r
  | .run => BitVec.ofNat 64 (runNumber s.run)
  | .status => statusNumber s.status
  | .cnt => BitVec.ofNat 64 s.cnt
  | .dfail => if s.der.ndest ≤ idx.toNat then 0 else BitVec.ofNat 64 (s.dfail.getD idx.toNat 0)
  | .accLen => BitVec.ofNat 64 s.acc.length
  | .carryLen => BitVec.ofNat 64 s.carry.length
  | .anchValid => if s.anch.valid then 1 else 0
  | .anchSec => anchorAnswer s.anch s.anch.sec
  | .anchNsec => anchorAnswer s.anch s.anch.nsec
  | .cause => s.cause.setWidth 64
  | .causeInfo => s.causeInfo

end Sys2Proof.Machine
end

