-- ==== Sys2Proof/Machine/Converter.lean ====
section
/-! DEFINITION. SampleConverter and carry-over: CARRY.SPLIT, CONV.S16, CONV.F32
(spec/43_sample_converter.md R190 to R196). -/

namespace Sys2Proof.Machine

/-- `CARRY.SPLIT(chunk)` (43 R190). -/
def carrySplit (chunk : List Byte) (s : State) : List Byte × State :=
  let all := s.carry ++ chunk
  let whole := all.length / s.der.bps * s.der.bps
  (all.take whole, { s with carry := all.drop whole })

/-- A run whose length is not a multiple of the sample width raises `AlignmentError` with the length and
converts nothing (43 R195, 60_exceptions R282). -/
def aligned (width : Nat) (bytes : List Byte) (convert : List Byte → List Sample) (s : State) :
    Res (List Sample) :=
  if bytes.length % width = 0 then .ok (convert bytes) s
  else .raised (takeError .alignment bytes.length s)

/-- `CONV.S16(bytes)` (43 R191). -/
def convS16 (bytes : List Byte) (s : State) : Res (List Sample) := aligned 4 bytes samplesS16 s

/-- `CONV.F32(bytes)` (43 R192). -/
def convF32 (bytes : List Byte) (s : State) : Res (List Sample) :=
  aligned 8 bytes (samplesF32 s.params.endian) s

/-- `convert(bytes)`: by the encoding latched at START (43 R193). -/
def convert (bytes : List Byte) (s : State) : Res (List Sample) :=
  if s.encValue = 0 then convS16 bytes s else convF32 bytes s

/-- CARRY.SPLIT alone. -/
def execCarrySplit (chunk : List Byte) (s : State) : Host.Outcome State Fault Refusal :=
  handBack (carrySplit chunk s) .bytes

/-- CONV.S16 alone. -/
def execConvS16 (bytes : List Byte) (s : State) : Host.Outcome State Fault Refusal :=
  (convS16 bytes s).outcome .samples

/-- CONV.F32 alone. -/
def execConvF32 (bytes : List Byte) (s : State) : Host.Outcome State Fault Refusal :=
  (convF32 bytes s).outcome .samples

end Sys2Proof.Machine
end

