-- ==== Sys2Proof/Machine/Numerics.lean ====
section
/-! DEFINITION. The numerics record `NUM` (spec/00_scope.md R16): the default body each rule gives
(40 R136, 41 R154, 42 R171, R173, R174, 44 R214) and, for each field, the choice between it and a
function nothing is known of. -/

namespace Sys2Proof.Machine

/-- `PI64`, the binary64 value nearest π (42 R171). -/
def pi64 : F64 := 0x400921FB54442D18

/-- `TWO_PI64 = 2 × PI64` (42 R171). -/
def twoPi64 : F64 := 0x401921FB54442D18

/-- What is known of the library at an angle, else the free value. -/
def trigValue (p : Params) (known : TrigRow → F64) (free : F64 → F64) (a : F64) : F64 :=
  match p.trig.find? (fun r => r.angle == a) with
  | some r => known r
  | none => free a

/-- A value in `[−1, 1]`: the one given where it is one, else +0.0. Log 4. -/
def unitValue (v : F64) : F64 :=
  if f64IsFinite v ∧ f64Lt 0x3FF0000000000000 (f64Abs v) = false then v else 0

/-- The platform's `sin` at an angle that is not negative: +0.0 at zero, a NaN at an angle that is not
finite, a value in `[−1, 1]` elsewhere. Log 4. -/
def sinMag (p : Params) (a : F64) : F64 :=
  if f64IsFinite a = false then someNan64 (Config.sin64 a)
  else if f64IsZero a then 0
  else unitValue (trigValue p TrigRow.sin Config.sin64 a)

/-- The platform's `cos` at an angle that is not negative: 1.0 at zero, a NaN at an angle that is not
finite, a value in `[−1, 1]` elsewhere. Log 4. -/
def cosMag (p : Params) (a : F64) : F64 :=
  if f64IsFinite a = false then someNan64 (Config.cos64 a)
  else if f64IsZero a then 0x3FF0000000000000
  else unitValue (trigValue p TrigRow.cos Config.cos64 a)

/-- The platform's `sin` (40 R133, R138, 42 R173), an odd function. Log 4. -/
def sinOf (p : Params) (x : F64) : F64 :=
  if f64Sign x then f64Neg (sinMag p (f64Abs x)) else sinMag p x

/-- The platform's `cos` (40 R134, 42 R173), an even function. Log 4. -/
def cosOf (p : Params) (x : F64) : F64 := cosMag p (f64Abs x)

/-- `window(n, T) = 0.54 − 0.46·cos(2π·n/(T − 1))` (40 R134), in binary64. Log 6. -/
def hamming (p : Params) (T n : Nat) : F64 :=
  f64Sub (f64Const 54 100)
    (f64Mul (f64Const 46 100)
      (cosOf p (f64Div (f64Mul twoPi64 (f64OfNat n)) (f64OfNat (T - 1)))))

/-- `ideal(m, c)`: 2·c at the centre tap, `sin(2π·c·m) / (π·m)` elsewhere (40 R133). Log 6. -/
def idealTap (p : Params) (c : F64) (m : Int) : F64 :=
  if m = 0 then f64Mul (f64OfNat 2) c
  else f64Div (sinOf p (f64Mul (f64Mul twoPi64 c) (f64OfInt m))) (f64Mul pi64 (f64OfInt m))

/-- The unscaled tap `g[n]`, with `m = n − (T − 1)/2` (40 R130, R132). -/
def unscaledTap (p : Params) (T : Nat) (c : F64) (n : Nat) : F64 :=
  f64Mul (hamming p T n) (idealTap p c ((n : Int) - ((T - 1) / 2 : Nat)))

/-- The binary64 sum in index order (40 R136). -/
def f64Sum : List F64 → F64
  | [] => 0
  | g :: gs => gs.foldl f64Add g

/-- Scaling to sum 1, skipped where the sum is exactly zero (40 R135), then `rnd32` (R136). -/
def normalise (g : List F64) : List W32 :=
  let S := f64Sum g
  if f64IsZero S then g.map f64ToF32 else g.map fun x => f64ToF32 (f64Div x S)

/-- The default body of `NUM.design` (40 R136). -/
def designDefault (p : Params) (T : Nat) (c : F64) : List W32 :=
  normalise ((List.range T).map (unscaledTap p T c))

/-- `NUM.design` with an unknown body: `T` words of which nothing is known. -/
def designFree (T : Nat) (c : F64) : List W32 := (List.range T).map (Config.freeDesign T c)

/-- `NUM.design(T, c)` (40 R136). -/
def numDesign (p : Params) (T : Nat) (c : F64) : List W32 :=
  match p.num.design with
  | .default => designDefault p T c
  | .free => designFree T c
  | .given rows =>
    match rows.find? (fun r => r.length == T) with
    | some r => r
    | none => designFree T c

/-- One component of the dot product: from +0.0, products rounded, then added, j = 0 first (41 R154). An
infinite sample times a coefficient that is not zero is an infinity, as in binary32. Log 40. -/
def dotDefault (h : List W32) (w : List W32) : W32 :=
  (h.zip w).foldl (fun acc hw => f32Add acc (f32Mul hw.1 hw.2)) 0

/-- `NUM.fir_dot(h, w)` (41 R154). -/
def numFirDot (p : Params) (h : List W32) (w : List Sample) : Sample :=
  match p.num.firDot with
  | .default => ⟨dotDefault h (w.map Sample.re), dotDefault h (w.map Sample.im)⟩
  | .free => Config.freeFirDot h w

/-- `NUM.phase_step(shiftHz, rate)` (42 R171). -/
def numPhaseStep (p : Params) (shiftHz rate : F64) : F64 :=
  match p.num.phaseStep with
  | .default => f64Div (f64Mul twoPi64 shiftHz) rate
  | .free => Config.freePhaseStep shiftHz rate

/-- The default body of `NUM.rotate` (42 R173). -/
def rotateDefault (p : Params) (s : Sample) (phase : F64) : Sample :=
  let c := f64ToF32 (cosOf p phase)
  let t := f64ToF32 (sinOf p phase)
  ⟨f32Sub (f32Mul s.re c) (f32Mul s.im t), f32Add (f32Mul s.re t) (f32Mul s.im c)⟩

/-- `NUM.rotate(s, φ)` (42 R173). -/
def numRotate (p : Params) (s : Sample) (phase : F64) : Sample :=
  match p.num.rotate with
  | .default => rotateDefault p s phase
  | .free => Config.freeRotate s phase

/-- More turns than any wrap loop that ends can take: each turn that changes the phase moves it on in
the 2^64 patterns. -/
def wrapFuel : Nat := 2 ^ 64

/-- `while φ > π: φ ← φ − 2π` (42 R174); `none` where a turn leaves the phase as it is, so that the loop
never ends. -/
def wrapDown : Nat → F64 → Option F64
  | 0, _ => none
  | n + 1, phase =>
    if f64Lt pi64 phase then
      if f64Sub phase twoPi64 = phase then none else wrapDown n (f64Sub phase twoPi64)
    else some phase

/-- `while φ < −π: φ ← φ + 2π` (42 R174); `none` where the loop never ends. -/
def wrapUp : Nat → F64 → Option F64
  | 0, _ => none
  | n + 1, phase =>
    if f64Lt phase (f64Neg pi64) then
      if f64Add phase twoPi64 = phase then none else wrapUp n (f64Add phase twoPi64)
    else some phase

/-- A phase within the bound R174 states: the free value where it lies within, else +0.0. Log 7. -/
def boundedPhase (free : F64) : F64 :=
  if isNan64 free ∨ f64Lt pi64 free ∨ f64Lt free (f64Neg pi64) then 0 else free

/-- The default body of `NUM.phase_advance` (42 R174). A loop that never ends under binary64 leaves a
phase of which only R174's bound is known (log 7). -/
def phaseAdvanceDefault (phase step : F64) : F64 :=
  match wrapDown wrapFuel (f64Add phase step) with
  | none => boundedPhase (Config.endlessWrap phase step)
  | some phase' =>
    match wrapUp wrapFuel phase' with
    | none => boundedPhase (Config.endlessWrap phase step)
    | some phase'' => phase''

/-- `NUM.phase_advance(φ, Δ)` (42 R174). -/
def numPhaseAdvance (p : Params) (phase step : F64) : F64 :=
  match p.num.phaseAdvance with
  | .default => phaseAdvanceDefault phase step
  | .free => Config.freePhaseAdvance phase step

/-- The default body of `NUM.ts_offset_float` (44 R214): `r = FS_OUT` rounded to binary64, which is the
binary64 quotient `CFG_RATE / 200.0`; `none` where the quotient is not finite. -/
def tsOffsetDefault (i : Nat) (fs : Frac) : Option Nat :=
  let s := f64Div (f64OfNat i) (f64OfFrac fs)
  match f64Floor s with
  | none => none
  | some whole =>
    match f64Floor (f64Mul (f64Sub s (f64OfNat whole)) (f64OfNat 1000000000)) with
    | none => none
    | some frac => some (whole * 1000000000 + min frac 999999999)

/-- `NUM.ts_offset_float(i, FS_OUT)` (44 R214). Log 8. -/
def numTsOffset (p : Params) (i : Nat) (fs : Frac) : Nat :=
  match p.num.tsOffsetFloat with
  | .default => (tsOffsetDefault i fs).getD (Config.unstatedOffset i fs)
  | .free => Config.freeTsOffset i fs

end Sys2Proof.Machine
end

