-- ==== Sys2Proof/Machine/Decimator.lean ====
section
/-! DEFINITION. CascadedDecimator: DEC.STEP and DEC.RUN (spec/41_cascaded_decimator.md R150 to R160). -/

namespace Sys2Proof.Machine

/-- The window (41 R153, 20_memory R62): element j is the sample stored j inputs ago, at index
`(CUR − 1 − j) mod T` with the cursor already advanced. -/
def window (hist : List Sample) (cur : Nat) : List Sample :=
  (List.range hist.length).map fun j =>
    hist.getD ((cur + (hist.length - 1 - j)) % hist.length) Sample.zero

/-- The write of an input sample and the advance of the cursor and the decimation phase (41 R151, R152). -/
def decWrite (F : Nat) (x : Sample) (d : Dec) : Dec :=
  { d with hist := d.hist.set d.cur x, cur := (d.cur + 1) % d.hist.length, ph := (d.ph + 1) % F }

/-- What DEC.STEP returns from the stage it has written: the dot product where the phase has wrapped to 0
(41 R150, R153, R154). -/
def decOutput (p : Params) (d : Dec) : Option Sample :=
  if d.ph = 0 then some (numFirDot p d.coef (window d.hist d.cur)) else none

/-- `DEC.STEP(k, s)` (41 R150): "the operation is total". -/
def decStep (k : Stage) (x : Sample) (s : State) : Option Sample × State :=
  let d := decWrite (Config.factor k) x (s.dec k)
  (decOutput s.params d, s.setDec k d)

/-- `DEC.RUN(k, run)` (41 R155): DEC.STEP once per sample, the outputs in order. -/
def decRun (k : Stage) : List Sample → State → List Sample × State
  | [], s => ([], s)
  | x :: xs, s =>
    let r := decStep k x s
    let rs := decRun k xs r.2
    (r.1.toList ++ rs.1, rs.2)

/-- DEC.STEP alone. -/
def execDecStep (k : Stage) (x : Sample) (s : State) : Host.Outcome State Fault Refusal :=
  handBack (decStep k x s) .output

/-- DEC.RUN alone. -/
def execDecRun (k : Stage) (run : List Sample) (s : State) : Host.Outcome State Fault Refusal :=
  handBack (decRun k run s) .samples

end Sys2Proof.Machine
end

