-- ==== Sys2Proof/Machine/Flags.lean ====
section
/-! DEFINITION. The block's flags and derived constants (spec/10_state.md R28, R32, R44): there are no
arithmetic condition codes. -/

namespace Sys2Proof.Machine

/-- `SHIFT_HZ = CFG_SHIFT_KHZ × 1000` in binary64 (10_state R28). -/
def shiftHzOf (shiftKhz : F64) : F64 := f64Mul shiftKhz (f64OfNat 1000)

/-- `NCO.BYPASS`: `SHIFT_HZ` compares equal to zero (10_state R32). -/
def bypassOf (shiftHz : F64) : Bool := f64IsZero shiftHz

/-- `BPS`: 4 under `S16LE`, 8 under `F32` (10_state R28). -/
def bpsOf (enc : BitVec 8) : Nat := if enc = 0 then 4 else 8

/-- `FS_OUT = CFG_RATE / 200`, exact (10_state R28, 00_scope R8), for a rate that is finite and not negative. START
derives it from no other rate (46 R253, check 2); 0 stands there. Log 24. -/
def fsOutOf (rate : F64) : Frac :=
  match f64Frac rate with
  | some q => ⟨q.num, q.den * Config.decim⟩
  | none => ⟨0, 1⟩

/-- `RATE_INT`: the real number `CFG_RATE / 200` is an integer (10_state R28). -/
def rateIntOf (fs : Frac) : Bool := decide (fs.num % fs.den = 0)

/-- `R_OUT`: that integer (10_state R28), loaded where there is one. -/
def rOutOf (fs : Frac) : Nat := fs.num / fs.den

end Sys2Proof.Machine
end

