-- ==== Sys2Proof/Machine/Timestamp.lean ====
section
/-! DEFINITION. TimestampEncoder: TS.ANCHOR and TS.HEADER (spec/44_timestamp_encoder.md R210 to R218). -/

namespace Sys2Proof.Machine

/-- `TS.ANCHOR()` (44 R210): one read of the clock where no anchor is held, nothing otherwise. -/
def tsAnchor (s : State) : State :=
  if s.anch.valid then s
  else
    let r := askClock s
    { r.2 with anch := ⟨true, r.1.sec, r.1.nsec.val⟩ }

/-- `off_ns` (44 R212): the integer path (R213) or the floating path (R214). The integer path states no offset where
`R_OUT` is 0 (00_scope R14 has `div` for a positive divisor), as before START: it is a free value there.
DESIGN CHOICE, log 32. -/
def tsOffset (i : Nat) (s : State) : Nat :=
  if s.der.rateInt then
    if s.der.rOut = 0 then Config.unstatedOffset i s.der.fsOut else i * Config.nsPerSec / s.der.rOut
  else numTsOffset s.params i s.der.fsOut

/-- The header sample of a time in nanoseconds (44 R212, R215, R216): two words, the seconds modulo 2^32
and the nanosecond remainder. -/
def headerWords (t : Nat) : Sample :=
  ⟨BitVec.ofNat 32 (t / Config.nsPerSec), BitVec.ofNat 32 (t % Config.nsPerSec)⟩

/-- `TS.HEADER(i)` (44 R212). -/
def tsHeader (i : Nat) (s : State) : Sample × State :=
  let a := tsAnchor s
  (headerWords (a.anch.sec * Config.nsPerSec + a.anch.nsec + tsOffset i a), a)

/-- TS.ANCHOR alone. -/
def execTsAnchor (s : State) : Host.Outcome State Fault Refusal := .next ((tsAnchor s).respond .done)

/-- TS.HEADER alone. -/
def execTsHeader (i : Nat) (s : State) : Host.Outcome State Fault Refusal :=
  handBack (tsHeader i s) fun h => .samples [h]

end Sys2Proof.Machine
end

