-- ==== Sys2Proof/Machine/Framer.lean ====
section
/-! DEFINITION. Framer and Streamer: FRM.ACCUM, FRM.FLUSH, FRM.SEND and the flush loop
(spec/45_framer_streamer.md R230 to R239). -/

namespace Sys2Proof.Machine

/-- `FRM.ACCUM(run)` (45 R230). -/
def frmAccum (run : List Sample) (s : State) : State := { s with acc := s.acc ++ run }

/-- `DFAIL[d] <- DFAIL[d] + 1` (45 R234). A counter START has not allocated counts from the reset value 0 that
10_state R40 gives it, and so do those below it. Log 18. -/
def countFailure : List Nat → Nat → List Nat
  | [], 0 => [1]
  | [], d + 1 => 0 :: countFailure [] d
  | c :: cs, 0 => (c + 1) :: cs
  | c :: cs, d + 1 => c :: countFailure cs d

/-- `emit(d, bytes)` and its result (45 R234): the event is recorded, a failure counted. -/
def deliver (bytes : List Byte) (d : Nat) (s : State) : State :=
  let r := askEmit s
  { r.2 with
    out := s.out ++ [⟨d, bytes, r.1⟩]
    dfail := if r.1 then s.dfail else countFailure s.dfail d }

/-- The deliveries to `n` destinations from `d` on, in order (45 R234, 20_memory R77). -/
def deliverFrom (bytes : List Byte) : Nat → Nat → State → State
  | 0, _, s => s
  | n + 1, d, s => deliverFrom bytes n (d + 1) (deliver bytes d s)

/-- `FRM.SEND(bytes)` (45 R234). The rule gives the operand as the `8 × P` bytes of one frame; put to the
block directly with a run of another length, which 30_encoding R98 says is never produced, the bytes are
sent as they stand. DESIGN CHOICE, log 39. -/
def frmSend (bytes : List Byte) (s : State) : State := deliverFrom bytes s.der.ndest 0 s

/-- The body of `FRM.FLUSH()` (45 R231), with `n = P − 1` payload samples. -/
def flushFrame (n : Nat) (s : State) : State :=
  let r := tsHeader s.cnt { s with acc := s.acc.drop n }
  { frmSend (serialise s.params.endian (r.1 :: s.acc.take n)) r.2 with cnt := s.cnt + n }

/-- `FRM.FLUSH()` (45 R231). Its precondition, which the flush loop checks, is checked here too. Log 22. -/
def frmFlush (s : State) : Res Unit :=
  if s.acc.length < s.pktValue - 1 then .fault .flushPrecondition
  else .ok () (flushFrame (s.pktValue - 1) s)

/-- `while len(ACC) >= P - 1: FRM.FLUSH()` (45 R233). Each flush shortens the queue where `P` is 2 or
more, so the queue's length is fuel enough; below that the loop never ends. -/
def flushLoop : Nat → State → Res Unit
  | 0, s => if s.acc.length < s.pktValue - 1 then .ok () s else .fault .flushNeverEnds
  | n + 1, s =>
    if s.acc.length < s.pktValue - 1 then .ok () s
    else (frmFlush s).bind fun _ s => flushLoop n s

/-- FRM.ACCUM alone. -/
def execFrmAccum (run : List Sample) (s : State) : Host.Outcome State Fault Refusal :=
  .next ((frmAccum run s).respond .done)

/-- FRM.FLUSH alone. -/
def execFrmFlush (s : State) : Host.Outcome State Fault Refusal := (frmFlush s).outcome fun _ => .done

/-- FRM.SEND alone. -/
def execFrmSend (bytes : List Byte) (s : State) : Host.Outcome State Fault Refusal :=
  .next ((frmSend bytes s).respond .done)

end Sys2Proof.Machine
end

