-- ==== Sys2Proof/Machine/Lowpass.lean ====
section
/-! DEFINITION. LowpassDesigner: LPF.DESIGN (spec/40_lowpass_designer.md R130 to R139). -/

namespace Sys2Proof.Machine

/-- `LPF.DESIGN(taps, cutoff)` (40 R130). -/
def lpfDesign (p : Params) (taps : Int) (cutoff : F64) : List W32 :=
  numDesign p (coerceTaps taps) cutoff

/-- `CUT[k]` (00_scope R7). -/
def cutOf (p : Params) : Stage → F64
  | .s1 => p.cut1
  | .s2 => p.cut2
  | .s3 => p.cut3

/-- LPF.DESIGN: reads and writes no state of the block (40 R130). -/
def execLpfDesign (taps : Int) (cutoff : F64) (s : State) : Host.Outcome State Fault Refusal :=
  .next (s.respond (.coefs (lpfDesign s.params taps cutoff)))

end Sys2Proof.Machine
end

