-- ==== Sys2Proof/Machine/Shifter.lean ====
section
/-! DEFINITION. FrequencyShifter: NCO.STEP and NCO.RUN (spec/42_frequency_shifter.md R170 to R178). -/

namespace Sys2Proof.Machine

/-- Write `NCO.PHASE`. -/
def State.setPhase (s : State) (phase : F64) : State := { s with nco := { s.nco with phase := phase } }

/-- `NCO.STEP(s)` (42 R170): rotated by the phase held before the step, then the phase advances; with
`NCO.BYPASS` the same two words and nothing touched (R172). -/
def ncoStep (x : Sample) (s : State) : Sample × State :=
  if s.nco.bypass then (x, s)
  else
    (numRotate s.params x s.nco.phase,
      s.setPhase (numPhaseAdvance s.params s.nco.phase s.nco.step))

/-- NCO.STEP once per sample, in order. -/
def ncoEach : List Sample → State → List Sample × State
  | [], s => ([], s)
  | x :: xs, s =>
    let r := ncoStep x s
    let rs := ncoEach xs r.2
    (r.1 :: rs.1, rs.2)

/-- `NCO.RUN(run)` (42 R175): with `NCO.BYPASS` the same run and nothing touched. -/
def ncoRun (run : List Sample) (s : State) : List Sample × State :=
  if s.nco.bypass then (run, s) else ncoEach run s

/-- NCO.STEP alone. -/
def execNcoStep (x : Sample) (s : State) : Host.Outcome State Fault Refusal :=
  handBack (ncoStep x s) fun y => .samples [y]

/-- NCO.RUN alone. -/
def execNcoRun (run : List Sample) (s : State) : Host.Outcome State Fault Refusal :=
  handBack (ncoRun run s) .samples

end Sys2Proof.Machine
end

