-- ==== Sys2Proof/Machine/Control.lean ====
section
/-! DEFINITION. Pipeline control: RESET, CFGWR, START, STATRD, PUSH, EOS, CANCEL, REANCHOR
(spec/46_pipeline_control.md R250 to R262). -/

namespace Sys2Proof.Machine

/-- RESET (46 R251): accepted in every lifecycle state. -/
def execReset (s : State) : Host.Outcome State Fault Refusal := .next (s.afterReset.respond .done)

/-- CFGWR (46 R252): accepted while `UNCONFIGURED`, no validation. -/
def execCfgwr (reg : CfgReg) (value : List Byte) (s : State) : Host.Outcome State Fault Refusal :=
  acceptedIn .unconfigured s
    (.next (State.respond { s with cfg := cfgWrite reg value s.cfg } .done))

/-- A settings record with every register written. -/
structure Settings where
  rate : F64
  shiftKhz : F64
  pkt : Nat
  chunk : Nat
  addr : List Byte
  ports : List Nat
  enc : BitVec 8
  deriving DecidableEq, Repr

/-- The settings, where every configuration register is written (46 R253, check 1). -/
def settingsOf (c : CfgRegs) : Option Settings :=
  match c.rate, c.shiftKhz, c.pkt, c.chunk, c.addr, c.ports, c.enc with
  | some rate, some shiftKhz, some pkt, some chunk, some addr, some ports, some enc =>
    some ⟨rate, shiftKhz, pkt, chunk, addr, ports, enc⟩
  | _, _, _, _, _, _, _ => none

/-- Is the frame size within `PKT_MAX` (10_state R23)? -/
def withinPktMax (pktMax : Option Nat) (pkt : Nat) : Bool :=
  match pktMax with
  | some m => decide (pkt ≤ m)
  | none => true

/-- The checks of START before the address is judged, in order: the sub-code of the first that fails
(46 R253, 60_exceptions R281). -/
def checkBeforeAddr (p : Params) (c : Settings) : Option Nat :=
  if ¬ (f64IsFinite c.rate ∧ f64Lt 0 c.rate) then some 2
  else if ¬ f64IsFinite c.shiftKhz then some 3
  else if c.pkt < 2 ∨ ¬ withinPktMax p.pktMax c.pkt then some 4
  else if c.chunk = 0 then some 5
  else none

/-- The checks of START after the address is judged (46 R253). -/
def checkAfterAddr (c : Settings) : Option Nat :=
  if c.ports = [] ∨ c.ports.any (fun q => decide (q = 0 ∨ 65535 < q)) then some 7
  else if ¬ (c.enc = 0 ∨ c.enc = 1) then some 8
  else none

/-- START's second part: the derived constants, `NCO.STEP` and `NCO.BYPASS` (46 R253, 10_state R28). `R_OUT` is loaded
where `CFG_RATE / 200` is an integer, and else left as it was, R28 giving it no value then. DESIGN CHOICE, log 18. -/
def loadDerived (c : Settings) (s : State) : State :=
  let fs := fsOutOf c.rate
  { s with
    der := { shiftHz := shiftHzOf c.shiftKhz, bps := bpsOf c.enc, ndest := c.ports.length, fsOut := fs,
             rateInt := rateIntOf fs, rOut := if rateIntOf fs then rOutOf fs else s.der.rOut }
    nco := { s.nco with step := numPhaseStep s.params (shiftHzOf c.shiftKhz) c.rate,
                        bypass := bypassOf (shiftHzOf c.shiftKhz) } }

/-- Are `SHIFT_HZ` and `NCO.STEP` finite (46 R253)? -/
def stepFinite (c : Settings) (p : Params) : Bool :=
  f64IsFinite (shiftHzOf c.shiftKhz) && f64IsFinite (numPhaseStep p (shiftHzOf c.shiftKhz) c.rate)

/-- A stage as START builds it: designed coefficients, a zero history of `T[k]` samples, cursor and
phase 0 (46 R253, 10_state R33 to R36). -/
def builtStage (p : Params) (k : Stage) : Dec :=
  { coef := lpfDesign p (tapsOf p k) (cutOf p k)
    hist := List.replicate (coerceTaps (tapsOf p k)) Sample.zero
    cur := 0
    ph := 0 }

/-- START's fourth part: the datapath state (46 R253). -/
def buildPipeline (c : Settings) (s : State) : State :=
  { s with
    dec1 := builtStage s.params .s1
    dec2 := builtStage s.params .s2
    dec3 := builtStage s.params .s3
    nco := { s.nco with phase := 0 }
    carry := []
    acc := []
    cnt := 0
    anch := { s.anch with valid := false }
    dfail := List.replicate c.ports.length 0
    run := .running }

/-- START's third and fourth parts, after every configuration check (46 R253): the sinks are asked for,
and the state is built where they open. -/
def openAndBuild (c : Settings) (s : State) : State :=
  let r := askSinkOpen c.addr c.ports s
  if r.1 then (buildPipeline c r.2).respond .done else takeError .runtime 1 r.2

/-- START's checks from the address on (46 R253), with the host's judgement of the address. -/
def startFromAddr (c : Settings) (s : State) : State :=
  let r := askParsable c.addr s
  if ¬ r.1 then takeError .config 6 r.2
  else
    match checkAfterAddr c with
    | some code => takeError .config code r.2
    | none =>
      if stepFinite c s.params then openAndBuild c (loadDerived c r.2)
      else takeError .config 3 (loadDerived c r.2)

/-- START in the configure phase (46 R253). -/
def startUp (s : State) : State :=
  match settingsOf s.cfg with
  | none => takeError .config 1 s
  | some c =>
    match checkBeforeAddr s.params c with
    | some code => takeError .config code s
    | none => startFromAddr c s

/-- START (46 R253): accepted while `UNCONFIGURED`. -/
def execStart (s : State) : Host.Outcome State Fault Refusal :=
  acceptedIn .unconfigured s (.next (startUp s))

/-- STATRD (46 R254): accepted in every lifecycle state, changes nothing, answers 64 bits. -/
def execStatrd (reg : StatReg) (idx : BitVec 16) (s : State) : Host.Outcome State Fault Refusal :=
  .next (s.respond (.answer (statAnswer s reg idx)))

/-- The input side of PUSH (46 R255): from bytes to the outputs of stage 3. -/
def pushThrough (data : List Byte) (s : State) : Res (List Sample) :=
  let aligned := carrySplit data s
  (convert aligned.1 aligned.2).bind fun x0 s =>
    let x1 := ncoRun x0 s
    let y1 := decRun .s1 x1.1 x1.2
    let y2 := decRun .s2 y1.1 y1.2
    let y3 := decRun .s3 y2.1 y2.2
    .ok y3.1 y3.2

/-- The framer's side of PUSH (46 R255): the accumulator and the flush loop. -/
def accumAndFlush (y3 : List Sample) (s : State) : Res Unit :=
  flushLoop (s.acc.length + y3.length) (frmAccum y3 s)

/-- PUSH in the run phase (46 R255). -/
def pushData (data : List Byte) (s : State) : Res Unit :=
  (pushThrough data s).bind fun y3 s => accumAndFlush y3 s

/-- PUSH (46 R255): accepted while `RUNNING`. -/
def execPush (data : List Byte) (s : State) : Host.Outcome State Fault Refusal :=
  acceptedIn .running s ((pushData data s).outcome fun _ => .done)

/-- The end of a run (46 R257, R258): the partial frame and the partial sample are dropped. -/
def endRun (status : ExitStatus) (s : State) : State :=
  { s with acc := [], carry := [], run := .done, status := status }

/-- EOS (46 R257): accepted while `RUNNING`. -/
def execEos (s : State) : Host.Outcome State Fault Refusal :=
  acceptedIn .running s (.next ((endRun .ok s).respond .done))

/-- CANCEL (46 R258): accepted while `RUNNING`, as EOS but for the status. -/
def execCancel (s : State) : Host.Outcome State Fault Refusal :=
  acceptedIn .running s (.next ((endRun s.params.statusCancelled s).respond .done))

/-- REANCHOR (46 R259): accepted while `RUNNING`; only `ANCH.VALID` is cleared. Log 17. -/
def execReanchor (s : State) : Host.Outcome State Fault Refusal :=
  acceptedIn .running s
    (.next (State.respond { s with anch := { s.anch with valid := false } } .done))

end Sys2Proof.Machine
end

