-- ==== Sys2Proof/Machine/Dispatch.lean ====
section
/-! DEFINITION. One arm per operation of spec/opcode_table.json. -/

namespace Sys2Proof.Machine

def exec (i : Instr) (s : State) : Host.Outcome State Fault Refusal :=
  match i with
  | .reset => Sys2Proof.Machine.execReset s
  | .cfgwr reg value => Sys2Proof.Machine.execCfgwr reg value s
  | .start => Sys2Proof.Machine.execStart s
  | .push data => Sys2Proof.Machine.execPush data s
  | .eos => Sys2Proof.Machine.execEos s
  | .cancel => Sys2Proof.Machine.execCancel s
  | .reanchor => Sys2Proof.Machine.execReanchor s
  | .statrd reg idx => Sys2Proof.Machine.execStatrd reg idx s
  | .lpfDesign taps cutoff => Sys2Proof.Machine.execLpfDesign taps cutoff s
  | .decStep k x => Sys2Proof.Machine.execDecStep k x s
  | .decRun k run => Sys2Proof.Machine.execDecRun k run s
  | .ncoStep x => Sys2Proof.Machine.execNcoStep x s
  | .ncoRun run => Sys2Proof.Machine.execNcoRun run s
  | .carrySplit chunk => Sys2Proof.Machine.execCarrySplit chunk s
  | .convS16 bytes => Sys2Proof.Machine.execConvS16 bytes s
  | .convF32 bytes => Sys2Proof.Machine.execConvF32 bytes s
  | .tsAnchor => Sys2Proof.Machine.execTsAnchor s
  | .tsHeader n => Sys2Proof.Machine.execTsHeader n s
  | .frmAccum run => Sys2Proof.Machine.execFrmAccum run s
  | .frmFlush => Sys2Proof.Machine.execFrmFlush s
  | .frmSend bytes => Sys2Proof.Machine.execFrmSend bytes s

end Sys2Proof.Machine
end

