-- ==== Sys2Proof/Machine/Fetch.lean ====
section
/-! DEFINITION. What the block takes next: a pending reset signal (spec/70_reset_and_hazards.md R320) or
termination signal (60_exceptions R286), both between commands alone, a micro-operation put to it for a component test (30_encoding R113, log 13), or the command at the head
of the command port (R110, R113, R114). -/

namespace Sys2Proof.Machine

/-- What the next step does. -/
inductive Fetched where
  /-- Nothing to do: the block waits (60_exceptions R297). -/
  | wait
  /-- The reset signal is taken, with the effect of RESET (70_reset_and_hazards R320). -/
  | reset
  /-- The termination signal is taken as the command CANCEL (60_exceptions R286). -/
  | signal
  /-- Bytes refused by name, taken from where they stood. -/
  | refuse (why : Reject) (s : State)
  /-- An operation, its bytes taken from where they stood. -/
  | run (i : Instr) (s : State)

/-- The micro-operation codes (30_encoding R111). -/
def microCodes : List Nat :=
  [0x10, 0x20, 0x21, 0x30, 0x31, 0x40, 0x41, 0x42, 0x50, 0x51, 0x60, 0x61, 0x62]

/-- The command at the head of the command port: a code above 0x07 is refused, its byte taken
(30_encoding R113). Log 12. -/
def portCommand : List Byte → Decoded
  | [] => .incomplete
  | op :: rest =>
    if op.toNat ≤ 7 then decode (op :: rest)
    else if microCodes.contains op.toNat then .reject (.microOnPort op) rest
    else .reject (.unassignedCode op) rest

/-- The micro-operation on the bench: a host command's code is refused, its byte taken. Log 13. -/
def benchOperation : List Byte → Decoded
  | [] => .incomplete
  | op :: rest => if op.toNat ≤ 7 then .reject (.commandOnBench op) rest else decode (op :: rest)

/-- The operation at the head of the bench, or else of the command port. -/
def nextOperation (s : State) : Fetched :=
  if s.bench = [] then
    match portCommand s.port with
    | .ok i rest => .run i { s with port := rest }
    | .incomplete => .wait
    | .reject why rest => .refuse why { s with port := rest }
  else
    match benchOperation s.bench with
    | .ok i rest => .run i { s with bench := rest }
    | .incomplete => .wait
    | .reject why rest => .refuse why { s with bench := rest }

/-- What the block takes next: a command in progress before all (70 R320, 60_exceptions R288 (c)), then the
reset signal, the termination signal, the bench and the command port. Logs 20, 21 and 42. -/
def fetch (s : State) : Fetched :=
  if s.host.waiting then nextOperation s
  else if s.rst then .reset
  else if s.term = .pending then .signal
  else nextOperation s

/-- Run one operation, given what it does with the host's answers. Where the host does not give them all
the block waits with its state as it was, and the operation's bytes stay where they are
(70_reset_and_hazards R325). Log 41. -/
def awaitAnswers (s : State) (done : Host.Outcome State Fault Refusal) :
    Host.Outcome State Fault Refusal :=
  match done with
  | .next t => if s.host.owes t.host then .next (s.setWaiting true) else .next t
  | .fault f => .fault f
  | .refused r => .refused r

/-- The bytes of an opcode-table word that its instruction takes up. -/
def tableInstrBytes (nbits w : Nat) : List Byte :=
  let bs := tableBytes nbits w
  match decode bs with
  | .ok _ rest => bs.take (bs.length - rest.length)
  | .incomplete => bs
  | .reject _ _ => bs

/-- Those bytes put where the next step looks: a host command at the head of the command port, a
micro-operation on the bench; no signal pending, and a host that answers. Log 14. -/
def placeTableWord (s : State) (nbits w : Nat) : State :=
  let bs := tableInstrBytes nbits w
  let s' := { (s.undertake none).setWaiting false with term := .clear, rst := false }
  if (bs.headD 0).toNat ≤ 7 then { s' with bench := [], port := bs } else { s' with bench := bs }

end Sys2Proof.Machine
end

