-- ==== Sys2Proof/Machine/Step.lean ====
section
/-! DEFINITION. One step: one operation run to completion (spec/00_scope.md R9, 20_memory R75), or
waiting, or a refusal without effect. -/

namespace Sys2Proof.Machine

/-- One step of the block. With nothing to take it waits, all its state kept (60_exceptions R297), and so
it does while the host owes it an answer (70_reset_and_hazards R325). -/
def step (s : State) : Host.Outcome State Fault Refusal :=
  match fetch s with
  | .wait => .next s
  | .reset => exec .reset s
  | .signal => exec .cancel s.settleTermination
  | .refuse why s' => .next (s'.refuse why)
  | .run i s' => awaitAnswers s (exec i (s'.setWaiting false))

/-- The state with an opcode-table word where the next step looks for an operation. -/
def State.withFetchWord (s : State) (nbits w : Nat) : State := placeTableWord s nbits w

end Sys2Proof.Machine
end

