-- ==== Sys2Proof/Safety.lean ====
section
/-! DEFINITION. What claims about a run of AHD-CORE are stated in: the invariants of spec/10_state.md
R29 to R42 and R49, gathered, a stage's well-formedness, a value's reading as a number, and the
parts of a state that claims compare. -/

namespace Sys2Proof.Machine

/-- A stage as every operation keeps it: `T[k]` coefficients and as many samples, the cursor inside the history,
the decimation phase below the factor (10_state R33 to R36). -/
def StageBuilt (p : Params) (k : Stage) (d : Dec) : Prop :=
  d.coef.length = coerceTaps (tapsOf p k) ∧ d.hist.length = coerceTaps (tapsOf p k) ∧
    d.cur < coerceTaps (tapsOf p k) ∧ d.ph < Config.factor k

/-- All three stages have that shape. -/
def StagesShaped (s : State) : Prop := ∀ k, StageBuilt s.params k (s.dec k)

/-- The configuration `c` is the one written, START admits it, and the derived constants are those of
10_state R28, R31, R32. -/
def Configured (c : Settings) (s : State) : Prop :=
  settingsOf s.cfg = some c ∧ checkBeforeAddr s.params c = none ∧ checkAfterAddr c = none ∧
    stepFinite c s.params = true ∧ loadDerived c s = s

/-- A valid anchor holds a nanosecond remainder below 10^9 (10_state R39). -/
def AnchorHeld (s : State) : Prop := s.anch.valid = true → s.anch.nsec < Config.nsPerSec

/-- A run in progress but for the bound on the queue (10_state R29, R33 to R36, R38 to R40). -/
structure Flowing (c : Settings) (s : State) : Prop where
  running : s.run = .running
  configured : Configured c s
  stages : StagesShaped s
  carry : s.carry.length < bpsOf c.enc
  counter : s.cnt % (c.pkt - 1) = 0
  counters : s.dfail.length = c.ports.length
  anchor : AnchorHeld s

/-- A run in progress between commands: the queue holds less than a frame's payload (10_state R37). -/
structure Running (c : Settings) (s : State) : Prop extends Flowing c s where
  queue : s.acc.length < c.pkt - 1

/-- The lifecycle, status and cause registers agree (10_state R41, R42, R49, 60_exceptions R280). -/
def LifecycleAgrees (s : State) : Prop :=
  match s.run with
  | .unconfigured => s.status = .none ∧ s.cause = 0 ∧ s.causeInfo = 0
  | .running => s.status = .none ∧ s.cause = 0 ∧ s.causeInfo = 0
  | .done =>
    (s.status = .ok ∨ s.status = s.params.statusCancelled) ∧ s.cause = 0 ∧ s.causeInfo = 0
  | .failed =>
    (s.cause = 1 ∧ s.status = .config ∧ 1 ≤ s.causeInfo.toNat ∧ s.causeInfo.toNat ≤ 8) ∨
      (s.cause = 2 ∧ s.status = .runtime) ∨
      (s.cause = 3 ∧ s.status = .runtime ∧ s.causeInfo = 1)

/-- A termination signal that has been taken has ended the run (60_exceptions R286). -/
def TakenEndsTheRun (s : State) : Prop := s.term = .taken → s.run = .done

/-- The invariant of the block driven from its command port. -/
def Inv (s : State) : Prop :=
  s.bench = [] ∧ LifecycleAgrees s ∧ TakenEndsTheRun s ∧ AnchorHeld s ∧
    StagesShaped s ∧ (s.run = .running → ∃ c, Running c s)

/-- No signal is to be taken before the next operation: none is pending, or a command is in progress
(60_exceptions R286, R288 (c), 70_reset_and_hazards R320). -/
def NoSignalNext (s : State) : Prop :=
  s.host.waiting = true ∨ (s.rst = false ∧ s.term ≠ .pending)

/-- The oscillator under the default numerics, the block driven from its command port: a finite step
while running and a phase in `[−PI64, PI64]`, not a NaN (10_state R30, 42_frequency_shifter R174). -/
def PhaseBounded (s : State) : Prop :=
  s.params.num.phaseAdvance = .default ∧ s.bench = [] ∧
    (s.run = .running → f64IsFinite s.nco.step = true) ∧
    isNan64 s.nco.phase = false ∧ f64Lt pi64 s.nco.phase = false ∧
    f64Lt s.nco.phase (f64Neg pi64) = false

/-- What START freezes (20_memory R80): the configuration, the derived constants, the oscillator's step
and bypass, the coefficients. -/
def SameFrozen (s t : State) : Prop :=
  t.cfg = s.cfg ∧ t.der = s.der ∧ t.nco.step = s.nco.step ∧ t.nco.bypass = s.nco.bypass ∧
    ∀ k, (t.dec k).coef = (s.dec k).coef

/-- The state with everything that only the delivery results can reach left out (46 R261): the results
in the event history, the failure counters and the delivery answers. -/
def State.withoutDeliveries (s : State) : State :=
  { s with
    out := s.out.map fun e => { e with ok := true }
    dfail := []
    host := { s.host with emits := [], nEmit := 0, limit := none } }

/-- A header's two words read as a time in nanoseconds (44 R216: as unsigned numbers). -/
def headerNanos (h : Sample) : Nat := h.re.toNat * Config.nsPerSec + h.im.toNat

/-- The exact value of a finite binary32 word (30_encoding R90). -/
def f32Value (w : W32) : Option ℚ :=
  match unpack fmt32 w.toNat with
  | .nan => none
  | .inf _ => none
  | .fin s m e => some (signed s m * (2 : ℚ) ^ e)

/-- `|Σ h[n] − 1| ≤ TOL` in exact arithmetic, with `TOL = tol.num / tol.den`
(40_lowpass_designer R137 (c), 00_scope R7). Log 37. -/
def UnityGain (tol : Frac) (h : List W32) : Prop :=
  ∃ vs : List ℚ, h.mapM f32Value = some vs ∧ |vs.sum - 1| ≤ (tol.num : ℚ) / tol.den

end Sys2Proof.Machine
end

