-- ==== Sys2Proof/Certificates/Slice0/Obligations.lean ====
section
/-! DEFINITION. The statements for the provers. Each docstring names the rules of spec/ it formalises,
and the log entry where a clause is the model's own choice. -/

open Sys2Proof Sys2Proof.Machine

/-! ## Lowpass designer -/

/-- 40_lowpass_designer R131: `coerce`, and `T[k]` as START allocates it. -/
def Obligations.CoercedTapsAreNextOdd : Prop :=
  ∀ taps : Int,
    (taps < 3 → coerceTaps taps = 3) ∧
    (3 ≤ taps → taps % 2 = 1 → (coerceTaps taps : Int) = taps) ∧
    (3 ≤ taps → taps % 2 = 0 → (coerceTaps taps : Int) = taps + 1) ∧
    coerceTaps taps % 2 = 1 ∧ 3 ≤ coerceTaps taps ∧
    ∀ (p : Params) (k : Stage),
      (builtStage p k).coef.length = coerceTaps (tapsOf p k) ∧
      (builtStage p k).hist.length = coerceTaps (tapsOf p k)

/-- 40 R130, R136, R137 (a) and (d): LPF.DESIGN completes in every state, returns `coerce(taps)` words,
an odd number that is 3 or more, changes nothing, and its words depend on the operands and the
parameters alone.
The spec marks R137 as its own inference. -/
def Obligations.DesignReturnsOddLengthAndTouchesNothing : Prop :=
  ∀ (taps : Int) (cutoff : F64) (s : State),
    ∃ h : List W32, h.length = coerceTaps taps ∧ h.length % 2 = 1 ∧ 3 ≤ h.length ∧
      ∀ s' : State, s'.params = s.params →
        exec (.lpfDesign taps cutoff) s' = .next { s' with resp := .coefs h }

/-! ## Decimator -/

/-- 41_cascaded_decimator R150 to R153: on a stage whose cursor lies inside its history DEC.STEP
completes, writes the sample at the cursor, advances cursor and phase, and where the phase wraps returns the dot product of the
coefficients with the window, newest first. Frame: the other stages and everything else. -/
def Obligations.DecStepWritesAdvancesAndOutputs : Prop :=
  ∀ (k : Stage) (x : Sample) (s : State) (d : Dec),
    s.dec k = d → d.cur < d.hist.length →
    ∃ (t : State) (d' : Dec), exec (.decStep k x) s = .next t ∧ t.dec k = d' ∧
      d'.coef = d.coef ∧ d'.hist.length = d.hist.length ∧
      (∀ i, i < d.hist.length → d'.hist[i]? = if i = d.cur then some x else d.hist[i]?) ∧
      d'.cur = (d.cur + 1) % d.hist.length ∧ d'.ph = (d.ph + 1) % Config.factor k ∧
      (d'.ph ≠ 0 → t.resp = .output none) ∧
      (d'.ph = 0 → ∃ w : List Sample, w.length = d.hist.length ∧ w[0]? = some x ∧
        (∀ j, j < d.hist.length →
          w[j]? = d'.hist[(((d'.cur : Int) - 1 - j) % (d.hist.length : Int)).toNat]?) ∧
        t.resp = .output (some (numFirDot s.params d.coef w))) ∧
      (∀ k', k' ≠ k → t.dec k' = s.dec k') ∧
      t = { s with dec1 := t.dec1, dec2 := t.dec2, dec3 := t.dec3, resp := t.resp }

/-- 20_memory R62: the history is circular. After any run the sample written j inputs ago stands at
`(CUR − 1 − j) mod T`: the run's own samples newest first, then what the history held before, which
on a fresh stage are zero samples; older samples are overwritten. -/
def Obligations.HistoryIsAShiftRegister : Prop :=
  ∀ (k : Stage) (run : List Sample) (s t : State) (T : Nat),
    (s.dec k).hist.length = T → (s.dec k).cur < T → exec (.decRun k run) s = .next t →
    (t.dec k).hist.length = T ∧ (t.dec k).cur < T ∧
    (∀ j, j < T →
      (t.dec k).hist[((((t.dec k).cur : Int) - 1 - j) % (T : Int)).toNat]? =
        if j < run.length then run.reverse[j]?
        else (s.dec k).hist[((((s.dec k).cur : Int) - 1 - (j - run.length : Nat)) % (T : Int)).toNat]?) ∧
    ((s.dec k).hist = List.replicate T Sample.zero → ∀ j, j < T →
      (t.dec k).hist[((((t.dec k).cur : Int) - 1 - j) % (T : Int)).toNat]? =
        (run.reverse ++ List.replicate T Sample.zero)[j]?)

/-- 41 R155, R156: DEC.RUN is DEC.STEP once per sample, the outputs in order; its output count, and the
phase it leaves; from phase 0 the count is `⌊N/F⌋`. On a stage with cursor and
phase in their ranges the run completes, and changes its stage and the response alone.
The spec marks R156 as its own inference. -/
def Obligations.DecRunOutputCount : Prop :=
  (∀ (k : Stage) (run : List Sample) (s : State) (d : Dec),
    s.dec k = d → d.cur < d.hist.length → d.ph < Config.factor k →
    ∃ (t : State) (out : List Sample), exec (.decRun k run) s = .next t ∧ t.resp = .samples out ∧
      out.length = (d.ph + run.length) / Config.factor k ∧
      (t.dec k).ph = (d.ph + run.length) % Config.factor k ∧
      (d.ph = 0 → out.length = run.length / Config.factor k) ∧
      (t.dec k).cur = (d.cur + run.length) % d.hist.length ∧ (t.dec k).coef = d.coef ∧
      (∀ k', k' ≠ k → t.dec k' = s.dec k') ∧
      t = { s with dec1 := t.dec1, dec2 := t.dec2, dec3 := t.dec3, resp := t.resp }) ∧
  (∀ (k : Stage) (s : State), exec (.decRun k []) s = .next { s with resp := .samples [] }) ∧
  ∀ (k : Stage) (x : Sample) (xs ys : List Sample) (y : Option Sample) (s s1 t : State),
    exec (.decStep k x) s = .next s1 → s1.resp = .output y →
    exec (.decRun k xs) s1 = .next t → t.resp = .samples ys →
    exec (.decRun k (x :: xs)) s = .next { t with resp := .samples (y.toList ++ ys) }

/-- 41 R157: two runs one after the other leave the state and return the samples of the one run that
joins them.
The spec marks R157 as its own inference. -/
def Obligations.DecRunIndependentOfChunking : Prop :=
  ∀ (k : Stage) (a b ya yb : List Sample) (s t u : State),
    exec (.decRun k a) s = .next t → t.resp = .samples ya →
    exec (.decRun k b) t = .next u → u.resp = .samples yb →
    exec (.decRun k (a ++ b)) s = .next { u with resp := .samples (ya ++ yb) }

/-- 41 R160: the filter has no feedback. After `T` further inputs a stage's outputs and state no longer
depend on what its history held.
The spec marks R160 as its own inference. -/
def Obligations.FilterForgetsItsHistory : Prop :=
  ∀ (k : Stage) (run more ya yb : List Sample) (s s' t t' u u' : State),
    s.params = s'.params → (s.dec k).coef = (s'.dec k).coef →
    (s.dec k).hist.length = (s'.dec k).hist.length → (s.dec k).cur = (s'.dec k).cur →
    (s.dec k).ph = (s'.dec k).ph → (s.dec k).cur < (s.dec k).hist.length →
    (s.dec k).hist.length ≤ run.length →
    exec (.decRun k run) s = .next t → exec (.decRun k run) s' = .next t' →
    exec (.decRun k more) t = .next u → exec (.decRun k more) t' = .next u' →
    u.resp = .samples ya → u'.resp = .samples yb →
    t.dec k = t'.dec k ∧ u.dec k = u'.dec k ∧ ya = yb

/-- 41 R154: the default dot product adds its rounded products to +0.0, coefficient 0 first, real and
imaginary parts apart, and where every product and every partial sum is representable in binary32 each
part has the exact value of its sum of products. It rests on sums and products that are exact wherever the
exact result is representable. -/
def Obligations.ExactArithmeticIsExact : Prop :=
  (∀ (a b c : W32) (va vb vc : ℚ), f32Value a = some va → f32Value b = some vb →
    f32Value c = some vc →
    (va + vb = vc → f32Value (f32Add a b) = some vc) ∧
    (va * vb = vc → f32Value (f32Mul a b) = some vc)) ∧
  ∀ (p : Params) (h : List W32) (w : List Sample), p.num.firDot = .default → h.length = w.length →
    numFirDot p [] [] = ⟨0x00000000, 0x00000000⟩ ∧
    (∀ (c : W32) (x : Sample), numFirDot p (h ++ [c]) (w ++ [x]) =
      ⟨f32Add (numFirDot p h w).re (f32Mul c x.re), f32Add (numFirDot p h w).im (f32Mul c x.im)⟩) ∧
    ∀ (part : Sample → W32) (hs xs ps : List ℚ), part = Sample.re ∨ part = Sample.im →
      h.map f32Value = hs.map some → (w.map fun x => f32Value (part x)) = xs.map some →
      ps = List.zipWith (fun a b => a * b) hs xs →
      (∀ q ∈ ps, ∃ word : W32, f32Value word = some q) →
      (∀ j, j ≤ ps.length → ∃ word : W32, f32Value word = some (ps.take j).sum) →
      f32Value (part (numFirDot p h w)) = some ps.sum

/-! ## Frequency shifter -/

/-- 42_frequency_shifter R172, 10_state R32: with `NCO.BYPASS` both operations return the same words and
touch nothing, the phase included; the bypass test holds for +0 and −0 and for no other shift. -/
def Obligations.BypassPassesEveryWordThrough : Prop :=
  (∀ (s : State) (x : Sample) (run : List Sample), s.nco.bypass = true →
    exec (.ncoStep x) s = .next { s with resp := .samples [x] } ∧
    exec (.ncoRun run) s = .next { s with resp := .samples run }) ∧
  ∀ w : F64, bypassOf w = true ↔ w = 0x0000000000000000 ∨ w = 0x8000000000000000

/-- 42 R170: NCO.STEP rotates by the phase held before the step, then the phase advances; nothing else
changes. -/
def Obligations.NcoStepRotatesThenAdvances : Prop :=
  ∀ (s : State) (x : Sample), s.nco.bypass = false →
    ∃ t : State, exec (.ncoStep x) s = .next t ∧
      t.resp = .samples [numRotate s.params x s.nco.phase] ∧
      t.nco = { s.nco with phase := numPhaseAdvance s.params s.nco.phase s.nco.step } ∧
      t = { s with nco := t.nco, resp := t.resp }

/-- 42 R175, R177, R178 (g): NCO.RUN completes with as many samples as it was given, sample i rotated by
the phase after i advances from the phase held before; nothing but the phase changes. An empty run
completes and changes nothing in every state.
The spec marks R177 and R178 as its own inference. -/
def Obligations.NcoRunRotatesEachSample : Prop :=
  (∀ s : State, exec (.ncoRun []) s = .next { s with resp := .samples [] }) ∧
  ∀ (s : State) (run : List Sample) (step : F64), s.nco.bypass = false → s.nco.step = step →
    ∃ (t : State) (ys : List Sample), exec (.ncoRun run) s = .next t ∧ t.resp = .samples ys ∧
      ys.length = run.length ∧
      (∀ i, ys[i]? = run[i]?.map fun x => numRotate s.params x
        ((fun ph => numPhaseAdvance s.params ph step)^[i] s.nco.phase)) ∧
      t.nco = { s.nco with
        phase := (fun ph => numPhaseAdvance s.params ph step)^[run.length] s.nco.phase } ∧
      t = { s with nco := t.nco, resp := t.resp }

/-- 42 R177: splitting a run of the oscillator at any point gives bit-identical results and state.
The spec marks R177 as its own inference. -/
def Obligations.NcoRunIndependentOfChunking : Prop :=
  ∀ (a b ya yb : List Sample) (s t u : State),
    exec (.ncoRun a) s = .next t → t.resp = .samples ya →
    exec (.ncoRun b) t = .next u → u.resp = .samples yb →
    exec (.ncoRun (a ++ b)) s = .next { u with resp := .samples (ya ++ yb) }

/-- 42 R174, 10_state R30: under the default numerics the phase stays in `[−PI64, PI64]` at every step.
(Where the wrap loop never ends the bound is all that is known of the phase: log 7.) -/
def Obligations.PhaseStaysBounded : Prop :=
  ∀ s t : State, PhaseBounded s → step s = .next t → PhaseBounded t

/-! ## Sample converter -/

/-- 43_sample_converter R190: CARRY.SPLIT completes, loses and reorders no byte, releases every whole
sample and keeps the rest. Frame: the carry alone changes. -/
def Obligations.CarrySplitReleasesWholeSamples : Prop :=
  ∀ (s : State) (chunk : List Byte) (bps : Nat), s.der.bps = bps → 0 < bps →
    ∃ (t : State) (out : List Byte), exec (.carrySplit chunk) s = .next t ∧ t.resp = .bytes out ∧
      out ++ t.carry = s.carry ++ chunk ∧
      out.length = (s.carry.length + chunk.length) / bps * bps ∧
      t.carry.length = (s.carry.length + chunk.length) % bps ∧ t.carry.length < bps ∧
      t = { s with carry := t.carry, resp := t.resp }

/-- 43 R190 (consequence), 20_memory R61: the released bytes do not depend on where the stream was cut. -/
def Obligations.CarrySplitIndependentOfChunking : Prop :=
  ∀ (s t u : State) (a b oa ob : List Byte), 0 < s.der.bps →
    exec (.carrySplit a) s = .next t → t.resp = .bytes oa →
    exec (.carrySplit b) t = .next u → u.resp = .bytes ob →
    exec (.carrySplit (a ++ b)) s = .next { u with resp := .bytes (oa ++ ob) }

/-- 43 R191: v/32768 is converted without rounding for every 16-bit integer, 0 gives +0.0, negative zero
is never produced.
The spec marks R191 as its own inference. -/
def Obligations.S16ConversionIsExact : Prop :=
  (∀ v : Int, -32768 ≤ v → v ≤ 32767 →
    f32Value (s16Float v) = some ((v : ℚ) / 32768) ∧ s16Float v ≠ 0x80000000) ∧
  s16Float 0 = 0x00000000

/-- 43 R191, R194: CONV.S16 of a whole-sample run completes with a quarter as many samples as bytes;
sample i comes from bytes 4i to 4i+3, I before Q, each the 16-bit two's-complement integer whose low byte
comes first (00_scope R14). Nothing else changes. -/
def Obligations.ConvS16ConvertsEverySample : Prop :=
  (∀ (s : State) (bytes : List Byte), bytes.length % 4 = 0 →
    ∃ out : List Sample, exec (.convS16 bytes) s = .next { s with resp := .samples out } ∧
      out.length = bytes.length / 4 ∧
      ∀ i, i < bytes.length / 4 → out[i]? = some
        ⟨s16Float (s16 (bytes.getD (4 * i) 0) (bytes.getD (4 * i + 1) 0)),
         s16Float (s16 (bytes.getD (4 * i + 2) 0) (bytes.getD (4 * i + 3) 0))⟩) ∧
  ∀ lo hi : Byte, -32768 ≤ s16 lo hi ∧ s16 lo hi ≤ 32767 ∧
    (s16 lo hi - (lo.toNat + 256 * hi.toNat : Nat)) % 65536 = 0

/-- 43 R192, R194: CONV.F32 of a whole-sample run completes; the words of sample i are the bytes 8i to
8i+7 in the byte order `ENDIAN`, whatever they are. Nothing else changes. -/
def Obligations.ConvF32MovesEveryWord : Prop :=
  ∀ (s : State) (bytes : List Byte), bytes.length % 8 = 0 →
    ∃ out : List Sample, exec (.convF32 bytes) s = .next { s with resp := .samples out } ∧
      out.length = bytes.length / 8 ∧
      ∀ i, i < bytes.length / 8 → ∃ x, out[i]? = some x ∧
        sampleBytes s.params.endian x = (bytes.drop (8 * i)).take 8

/-- 43 R195, 60_exceptions R282, R290: a misaligned length raises `AlignmentError` with the length, before
any sample is produced; the entry writes cause, info, status and lifecycle and nothing else. (That a length
of 2^64 or more is kept modulo 2^64 is log 38.)
The spec marks R195 as its own inference. -/
def Obligations.MisalignedRunRaisesAlignmentError : Prop :=
  ∀ (s : State) (bytes : List Byte),
    (bytes.length % 4 ≠ 0 → exec (.convS16 bytes) s = .next
      { s with cause := 2, causeInfo := BitVec.ofNat 64 bytes.length, status := .runtime,
               run := .failed, resp := .raised }) ∧
    (bytes.length % 8 ≠ 0 → exec (.convF32 bytes) s = .next
      { s with cause := 2, causeInfo := BitVec.ofNat 64 bytes.length, status := .runtime,
               run := .failed, resp := .raised })

/-- 00_scope R14: `word_E` is the inverse of `bytes_E`, in both byte orders and both directions; the
little-endian bytes are the word's, least significant first, and the big-endian ones their reverse. -/
def Obligations.WordAndBytesAreInverse : Prop :=
  (∀ (e : Endian) (b0 b1 b2 b3 : Byte) (w : W32),
    bytesE e (wordE e b0 b1 b2 b3) = [b0, b1, b2, b3] ∧
    (bytesE e w = [b0, b1, b2, b3] → wordE e b0 b1 b2 b3 = w)) ∧
  ∀ w : W32, (bytesE .little w).length = 4 ∧ leNat (bytesE .little w) = w.toNat ∧
    bytesE .big w = (bytesE .little w).reverse

/-! ## Timestamp encoder -/

/-- 44_timestamp_encoder R210: with a valid anchor TS.ANCHOR does nothing and reads no clock; without one
it reads the clock once and holds the answer, scripted or free. -/
def Obligations.AnchorIsTakenOnce : Prop :=
  ∀ s : State,
    (s.anch.valid = true → exec .tsAnchor s = .next { s with resp := .done }) ∧
    (s.anch.valid = false → ∃ c : Clock, (s.host.clock = [] ∨ s.host.clock.head? = some c) ∧
      exec .tsAnchor s = .next { s with
        anch := ⟨true, c.sec, c.nsec.val⟩
        host := { s.host with clock := s.host.clock.tail, nClock := s.host.nClock + 1 }
        resp := .done })

/-- 44 R212, R213, R214, R215: TS.HEADER completes in every state. It does what TS.ANCHOR does with the anchor and
the clock, and the header's words are the seconds modulo 2^32 and the nanoseconds of that anchor plus the offset:
`i·10^9 div R_OUT` on the integer path, the field of `NUM` on the floating path. Nothing else changes. (On the
integer path with `R_OUT` 0, as before START, the rules state no offset and it is free: log 32.) -/
def Obligations.HeaderIsAnchorPlusOffset : Prop :=
  ∀ (s : State) (i : Nat),
    ∃ (t a : State) (h : Sample) (sec nsec off : Nat),
      exec (.tsHeader i) s = .next t ∧ t.resp = .samples [h] ∧
      exec .tsAnchor s = .next a ∧ t.anch = a.anch ∧ t.host = a.host ∧
      t.anch = ⟨true, sec, nsec⟩ ∧ (AnchorHeld s → nsec < 1000000000) ∧
      (s.der.rateInt = true → 0 < s.der.rOut → off = i * 1000000000 / s.der.rOut) ∧
      (s.der.rateInt = false → off = numTsOffset s.params i s.der.fsOut) ∧
      h.re.toNat = (sec * 1000000000 + nsec + off) / 1000000000 % 4294967296 ∧
      h.im.toNat = (sec * 1000000000 + nsec + off) % 1000000000 ∧
      (s.anch.valid = true → t.anch = s.anch ∧ t.host = s.host) ∧
      (s.anch.valid = false → t.host.nClock = s.host.nClock + 1) ∧
      t = { s with anch := t.anch, host := t.host, resp := t.resp }

/-- 44 R215, 30_encoding R98: a header's nanoseconds are below 10^9 in every state, so its two top bits
are 0 (30_encoding R95). -/
def Obligations.HeaderNanosecondsBelowOneSecond : Prop :=
  ∀ (s t : State) (i : Nat) (h : Sample), exec (.tsHeader i) s = .next t →
    t.resp = .samples [h] → h.im.toNat < 1000000000 ∧ h.im.extractLsb' 30 2 = 0

/-- 44 R217, on the integer path and before the seconds pass 32 bits: (a) index 0 gives the anchor;
(b) the step between indices is the floor of the exact step or one more; (c) times do not decrease,
and increase strictly up to 10^9 samples per second; (d) the error of each is below 1 ns; (e) it is
exact where `R_OUT` divides both products.
The spec marks R217 as its own inference. -/
def Obligations.HeaderStepsAndMonotonicity : Prop :=
  ∀ (s ti tj : State) (i j r sec nsec : Nat) (hi hj : Sample),
    s.anch = ⟨true, sec, nsec⟩ → nsec < 1000000000 → s.der.rateInt = true →
    s.der.rOut = r → 0 < r → i < j →
    sec * 1000000000 + nsec + j * 1000000000 / r < 4294967296 * 1000000000 →
    exec (.tsHeader i) s = .next ti → ti.resp = .samples [hi] →
    exec (.tsHeader j) s = .next tj → tj.resp = .samples [hj] →
    (i = 0 → headerNanos hi = sec * 1000000000 + nsec) ∧
    (headerNanos hj = headerNanos hi + (j - i) * 1000000000 / r ∨
      headerNanos hj = headerNanos hi + (j - i) * 1000000000 / r + 1) ∧
    headerNanos hi ≤ headerNanos hj ∧ (r ≤ 1000000000 → headerNanos hi < headerNanos hj) ∧
    headerNanos hi * r ≤ (sec * 1000000000 + nsec) * r + i * 1000000000 ∧
    (sec * 1000000000 + nsec) * r + i * 1000000000 < headerNanos hi * r + r ∧
    (r ∣ i * 1000000000 → r ∣ j * 1000000000 →
      (headerNanos hj - headerNanos hi) * r = (j - i) * 1000000000)

/-- 10_state R28: `FS_OUT` is the exact quotient `CFG_RATE / 200`; `RATE_INT` holds exactly where that quotient is an
integer, and then `R_OUT` is that integer, 1 or more. (`FS_OUT` as an exact fraction is log 24.)
The spec marks R28 as its own inference. -/
def Obligations.OutputRateIsExact : Prop :=
  ∀ (rate : F64) (q fs : Frac), f64Lt 0 rate = true → f64Frac rate = some q → fsOutOf rate = fs →
    0 < q.den ∧ 0 < q.num ∧ 0 < fs.den ∧ fs.num * (200 * q.den) = q.num * fs.den ∧
    (rateIntOf fs = true ↔ (200 * q.den) ∣ q.num) ∧
    (rateIntOf fs = true → rOutOf fs * (200 * q.den) = q.num ∧ 1 ≤ rOutOf fs)

/-! ## Framer and streamer -/

/-- 45_framer_streamer R230: FRM.ACCUM appends at the back and changes nothing else. -/
def Obligations.AccumAppendsAtTheBack : Prop :=
  ∀ (s : State) (run : List Sample),
    exec (.frmAccum run) s = .next { s with acc := s.acc ++ run, resp := .done }

/-- 45 R231, 20_memory R65: with `P − 1` samples queued FRM.FLUSH completes in every state: it takes the oldest
`P − 1` samples, prepends the header of the counter before the flush, gives the identical frame to every destination
in order, counts the payload, and counts each failed delivery (R234). The results are the host's answers, the
scripted ones first (log 9). (That `CFG_PKT` reads 0 while unwritten, and that a counter not yet allocated counts
from 0, is log 18. That with `CFG_PKT` 0 or 1, which START does not admit, `P − 1` is 0 by natural subtraction and
the frame is a header alone is log 22.) Frame: queue, counter, anchor, failure counters, event history and the
host's side alone change. -/
def Obligations.FlushSendsOneFrame : Prop :=
  ∀ (s : State) (p : Nat), s.cfg.pkt = some p ∨ (s.cfg.pkt = none ∧ p = 0) → p - 1 ≤ s.acc.length →
    ∃ (t t0 : State) (hdr : Sample) (oks : List Bool),
      exec .frmFlush s = .next t ∧ t.acc = s.acc.drop (p - 1) ∧ t.cnt = s.cnt + (p - 1) ∧
      exec (.tsHeader s.cnt) s = .next t0 ∧ t0.resp = .samples [hdr] ∧ t.anch = t0.anch ∧
      oks.length = s.der.ndest ∧
      t.out = s.out ++ oks.zipIdx.map (fun ok =>
        ⟨ok.2, serialise s.params.endian (hdr :: s.acc.take (p - 1)), ok.1⟩) ∧
      (∀ i, i < s.der.ndest → i < s.host.emits.length → oks[i]? = s.host.emits[i]?) ∧
      (∀ d : Nat, t.dfail.getD d 0 = s.dfail.getD d 0 + if oks[d]? = some false then 1 else 0) ∧
      (s.der.ndest ≤ s.dfail.length → t.dfail.length = s.dfail.length) ∧ t.resp = .done ∧
      t = { s with acc := t.acc, cnt := t.cnt, anch := t.anch, dfail := t.dfail, out := t.out,
                   host := t.host, resp := t.resp }

/-- 45 R234, 20_memory R77: in every state FRM.SEND gives the same bytes to destinations 0 to `NDEST − 1` in order,
whatever the host answers; the counter of a destination goes up by one exactly where its delivery
failed. Nothing but the counters, the event history and the host's side changes. (R234 gives the operand
as the bytes of one frame and R98 says that other lengths are never produced: that a byte run of another
length is sent as it stands is the model's choice, log 39. That a counter not yet allocated counts from 0
is log 18.)
The spec marks R77 as its own inference. -/
def Obligations.SendReachesEveryDestination : Prop :=
  ∀ (s : State) (bytes : List Byte),
    ∃ (t : State) (oks : List Bool), exec (.frmSend bytes) s = .next t ∧ oks.length = s.der.ndest ∧
      (∀ i, i < s.der.ndest → i < s.host.emits.length → oks[i]? = s.host.emits[i]?) ∧
      t.out = s.out ++ oks.zipIdx.map (fun ok => ⟨ok.2, bytes, ok.1⟩) ∧
      (∀ d : Nat, t.dfail.getD d 0 = s.dfail.getD d 0 + if oks[d]? = some false then 1 else 0) ∧
      (s.der.ndest ≤ s.dfail.length → t.dfail.length = s.dfail.length) ∧ t.resp = .done ∧
      t = { s with dfail := t.dfail, out := t.out, host := t.host, resp := t.resp }

/-- 30_encoding R94, R96, 45 R232: a frame is serialised to eight bytes a sample, sample i at byte 8i, the
real word before the imaginary one, each in the byte order `ENDIAN`. -/
def Obligations.FrameLayout : Prop :=
  ∀ (e : Endian) (frame : List Sample),
    (serialise e frame).length = 8 * frame.length ∧
    ∀ (i : Nat) (x : Sample), frame[i]? = some x →
      ((serialise e frame).drop (8 * i)).take 4 = bytesE e x.re ∧
      ((serialise e frame).drop (8 * i + 4)).take 4 = bytesE e x.im

/-! ## Pipeline control -/

/-- 46_pipeline_control R251, 10_state R48: RESET completes in every state and leaves every piece of state
at the value of the column "after RESET", the history afresh: the configuration registers unwritten, `NCO.PHASE`
+0.0, cursors and decimation phases 0, queue, carry and counters empty or 0, no valid anchor. (R48 gives no value to
what it calls unwritten or unallocated elsewhere: the values of the derived constants, of `NCO.STEP` and
`NCO.BYPASS`, of the coefficients, of the anchor's fields and of the failure counters are the model's choice, log 18,
and the `T[k]` zero samples of the histories are the contents R34 gives them at START. That the host's answers, the
bytes waiting and the parameters stay is the model's: log 29.) 70_reset_and_hazards R320: a
reset signal has exactly that effect in the next step between commands, and while a command is in
progress that command goes on. (That the signal is a bit of the state: log 21.) -/
def Obligations.ResetLeavesTheResetState : Prop :=
  ∀ s : State, ∃ t : State, exec .reset s = .next t ∧
    t.cfg.rate = none ∧ t.cfg.shiftKhz = none ∧ t.cfg.pkt = none ∧ t.cfg.chunk = none ∧
    t.cfg.addr = none ∧ t.cfg.ports = none ∧ t.cfg.enc = none ∧
    t.der.shiftHz = 0x0000000000000000 ∧ t.der.bps = 4 ∧ t.der.ndest = 0 ∧ t.der.fsOut = ⟨0, 1⟩ ∧
    t.der.rateInt = true ∧ t.der.rOut = 0 ∧
    t.carry = [] ∧ t.nco.phase = 0x0000000000000000 ∧ t.nco.step = 0x0000000000000000 ∧
    t.nco.bypass = true ∧
    (∀ k, (t.dec k).coef = List.replicate (coerceTaps (tapsOf s.params k)) 0 ∧
      (t.dec k).hist = List.replicate (coerceTaps (tapsOf s.params k)) ⟨0, 0⟩ ∧
      (t.dec k).cur = 0 ∧ (t.dec k).ph = 0) ∧
    t.acc = [] ∧ t.cnt = 0 ∧ t.anch.valid = false ∧ t.anch.sec = 0 ∧ t.anch.nsec = 0 ∧
    t.dfail = [] ∧ t.run = .unconfigured ∧ t.status = .none ∧ t.cause = 0 ∧ t.causeInfo = 0 ∧
    t.term = .clear ∧ t.rst = false ∧ t.out = [] ∧ t.resp = .done ∧
    t.port = s.port ∧ t.bench = s.bench ∧ t.host = s.host ∧ t.params = s.params ∧
    (s.host.waiting = false → step s.raiseReset = .next t) ∧
    (s.host.waiting = true → fetch s.raiseReset = nextOperation s.raiseReset)

/-- 46 R252, 30_encoding R112: while `UNCONFIGURED` CFGWR writes its register, and no other state, with the
value in the register's encoding. (That a value of another length leaves what the register held is
the model's reading: log 16.) -/
def Obligations.CfgwrWritesItsRegister : Prop :=
  ∀ (s : State) (value : List Byte) (ports : List Nat), s.run = .unconfigured →
    (value.length = 8 →
      exec (.cfgwr .rate value) s = .next
        { s with cfg := { s.cfg with rate := some (BitVec.ofNat 64 (leNat value)) }, resp := .done } ∧
      exec (.cfgwr .shiftKhz value) s = .next
        { s with cfg := { s.cfg with shiftKhz := some (BitVec.ofNat 64 (leNat value)) },
                 resp := .done } ∧
      exec (.cfgwr .pkt value) s = .next
        { s with cfg := { s.cfg with pkt := some (leNat value) }, resp := .done } ∧
      exec (.cfgwr .chunk value) s = .next
        { s with cfg := { s.cfg with chunk := some (leNat value) }, resp := .done }) ∧
    exec (.cfgwr .addr value) s = .next
      { s with cfg := { s.cfg with addr := some value }, resp := .done } ∧
    ((∀ q ∈ ports, q < 65536) → exec (.cfgwr .ports (ports.flatMap (bytesLE 2))) s = .next
      { s with cfg := { s.cfg with ports := some ports }, resp := .done }) ∧
    (∀ b, value = [b] → exec (.cfgwr .enc value) s = .next
      { s with cfg := { s.cfg with enc := some b }, resp := .done }) ∧
    (value.length ≠ 8 → ∀ reg ∈ [CfgReg.rate, .shiftKhz, .pkt, .chunk],
      exec (.cfgwr reg value) s = .next { s with resp := .done }) ∧
    (value.length % 2 = 1 → exec (.cfgwr .ports value) s = .next { s with resp := .done }) ∧
    (value.length ≠ 1 → exec (.cfgwr .enc value) s = .next { s with resp := .done })

/-- 46 R253, 10_state R48: with a good configuration, a parsable address and sinks that open, START
completes: the constants of R28 are derived (`R_OUT` where the quotient is an integer; that it
is else left as it was is the model's choice, log 18), the three stages built on zero histories, the oscillator,
carry, queue, counter, anchor and failure counters at their start values, `RUN = RUNNING`. -/
def Obligations.StartBuildsThePipeline : Prop :=
  ∀ (s : State) (c : Settings), s.run = .unconfigured → settingsOf s.cfg = some c →
    checkBeforeAddr s.params c = none → (askParsable c.addr s).1 = true →
    checkAfterAddr c = none → stepFinite c s.params = true → (askSinkOpen c.addr c.ports s).1 = true →
    ∃ t : State, exec .start s = .next t ∧ Running c t ∧
      t.der.shiftHz = shiftHzOf c.shiftKhz ∧
      t.der.bps = (if c.enc = 0 then 4 else 8) ∧ t.der.ndest = c.ports.length ∧
      t.der.fsOut = fsOutOf c.rate ∧ t.der.rateInt = rateIntOf (fsOutOf c.rate) ∧
      t.der.rOut = (if t.der.rateInt = true then rOutOf (fsOutOf c.rate) else s.der.rOut) ∧
      t.nco = ⟨0, numPhaseStep s.params (shiftHzOf c.shiftKhz) c.rate,
        bypassOf (shiftHzOf c.shiftKhz)⟩ ∧
      (∀ k, (t.dec k).coef = lpfDesign s.params (tapsOf s.params k) (cutOf s.params k) ∧
        (t.dec k).hist = List.replicate (coerceTaps (tapsOf s.params k)) ⟨0, 0⟩ ∧
        (t.dec k).cur = 0 ∧ (t.dec k).ph = 0) ∧
      t.carry = [] ∧ t.acc = [] ∧ t.cnt = 0 ∧ t.anch.valid = false ∧
      t.dfail = List.replicate c.ports.length 0 ∧ t.resp = .done ∧
      t = { s with der := t.der, nco := t.nco, dec1 := t.dec1, dec2 := t.dec2, dec3 := t.dec3,
                   carry := t.carry, acc := t.acc, cnt := t.cnt, anch := t.anch,
                   dfail := t.dfail, run := t.run, host := t.host, resp := t.resp }

/-- 60_exceptions R281, 46 R253: every bad configuration is refused by START with the sub-code of the
first check that fails, in the rule's order; no stage is built, the sinks are not opened, the clock is
not read, nothing is emitted. No other operation raises `ConfigError`. -/
def Obligations.StartReportsTheFirstBadSetting : Prop :=
  (∀ s : State, s.run = .unconfigured →
    ∀ code : Nat,
      (match settingsOf s.cfg with
        | none => code = 1
        | some c =>
          code =
            if f64IsFinite c.rate = false ∨ f64Lt 0 c.rate = false then 2
            else if f64IsFinite c.shiftKhz = false then 3
            else if c.pkt < 2 ∨ (∃ m, s.params.pktMax = some m ∧ m < c.pkt) then 4
            else if c.chunk = 0 then 5
            else if (askParsable c.addr s).1 = false then 6
            else if c.ports = [] ∨ 0 ∈ c.ports ∨ (∃ q ∈ c.ports, 65535 < q) then 7
            else if c.enc ≠ 0 ∧ c.enc ≠ 1 then 8
            else if f64IsFinite (shiftHzOf c.shiftKhz) = false ∨
              f64IsFinite (numPhaseStep s.params (shiftHzOf c.shiftKhz) c.rate) = false then 3
            else 0) →
      code ≠ 0 →
      ∃ t : State, exec .start s = .next t ∧ t.run = .failed ∧ t.status = .config ∧ t.cause = 1 ∧
        t.causeInfo = BitVec.ofNat 64 code ∧ t.out = s.out ∧ (∀ k, t.dec k = s.dec k) ∧
        t.host.nSinkOpen = s.host.nSinkOpen ∧ t.host.nClock = s.host.nClock ∧
        t.cfg = s.cfg ∧ t.carry = s.carry ∧ t.acc = s.acc ∧ t.cnt = s.cnt ∧ t.anch = s.anch ∧
        t.dfail = s.dfail ∧ t.nco.phase = s.nco.phase) ∧
  ∀ (i : Instr) (s t : State), exec i s = .next t → t.cause = 1 → s.cause = 1 ∨ i = .start

/-- 60 R283: a good configuration whose sinks cannot be opened ends in `RuntimeError`, sub-code 1, status
`EXIT_RUNTIME`, and no datapath state is built. -/
def Obligations.UnusableSinksAreARuntimeError : Prop :=
  ∀ (s : State) (c : Settings), s.run = .unconfigured → settingsOf s.cfg = some c →
    checkBeforeAddr s.params c = none → (askParsable c.addr s).1 = true →
    checkAfterAddr c = none → stepFinite c s.params = true → (askSinkOpen c.addr c.ports s).1 = false →
    ∃ t : State, exec .start s = .next t ∧ t.run = .failed ∧ t.status = .runtime ∧ t.cause = 3 ∧
      t.causeInfo = 1 ∧ t.out = s.out ∧ (∀ k, t.dec k = s.dec k) ∧ t.dfail = s.dfail ∧
      t.carry = s.carry ∧ t.acc = s.acc ∧ t.cnt = s.cnt ∧ t.anch = s.anch ∧
      t.nco.phase = s.nco.phase

/-- 46 R254, 30_encoding R112, R118: STATRD answers in every lifecycle state and changes nothing but the
response. -/
def Obligations.StatrdAnswersAndChangesNothing : Prop :=
  ∀ (s : State) (idx : BitVec 16),
    (∀ reg, exec (.statrd reg idx) s = .next { s with resp := .answer (statAnswer s reg idx) }) ∧
    (statAnswer s .run idx).toNat = (match s.run with
      | .unconfigured => 0 | .running => 1 | .done => 2 | .failed => 3) ∧
    statAnswer s .status idx = (match s.status with
      | .none => 0xFFFFFFFFFFFFFFFF | .ok => 0 | .runtime => 1 | .config => 2) ∧
    (s.cnt < 2 ^ 64 → (statAnswer s .cnt idx).toNat = s.cnt) ∧
    (s.der.ndest ≤ idx.toNat → statAnswer s .dfail idx = 0) ∧
    (idx.toNat < s.der.ndest → s.dfail.getD idx.toNat 0 < 2 ^ 64 →
      (statAnswer s .dfail idx).toNat = s.dfail.getD idx.toNat 0) ∧
    (s.acc.length < 2 ^ 64 → (statAnswer s .accLen idx).toNat = s.acc.length) ∧
    (s.carry.length < 2 ^ 64 → (statAnswer s .carryLen idx).toNat = s.carry.length) ∧
    (s.anch.valid = false → statAnswer s .anchValid idx = 0 ∧ statAnswer s .anchSec idx = 0 ∧
      statAnswer s .anchNsec idx = 0) ∧
    (∀ sec nsec, s.anch = ⟨true, sec, nsec⟩ → sec < 2 ^ 64 → nsec < 1000000000 →
      statAnswer s .anchValid idx = 1 ∧ (statAnswer s .anchSec idx).toNat = sec ∧
      (statAnswer s .anchNsec idx).toNat = nsec) ∧
    (statAnswer s .cause idx).toNat = s.cause.toNat ∧ statAnswer s .causeInfo idx = s.causeInfo ∧
    (s.cfg.rate = none → statAnswer s (.cfg .rate) idx = 0) ∧
    (s.cfg.shiftKhz = none → statAnswer s (.cfg .shiftKhz) idx = 0) ∧
    (s.cfg.pkt = none → statAnswer s (.cfg .pkt) idx = 0) ∧
    (s.cfg.chunk = none → statAnswer s (.cfg .chunk) idx = 0) ∧
    (s.cfg.addr = none → statAnswer s (.cfg .addr) idx = 0) ∧
    (s.cfg.ports = none → statAnswer s (.cfg .ports) idx = 0) ∧
    (s.cfg.enc = none → statAnswer s (.cfg .enc) idx = 0) ∧
    (∀ w, s.cfg.rate = some w → statAnswer s (.cfg .rate) idx = w) ∧
    (∀ w, s.cfg.shiftKhz = some w → statAnswer s (.cfg .shiftKhz) idx = w) ∧
    (∀ n, s.cfg.pkt = some n → n < 2 ^ 64 → (statAnswer s (.cfg .pkt) idx).toNat = n) ∧
    (∀ n, s.cfg.chunk = some n → n < 2 ^ 64 → (statAnswer s (.cfg .chunk) idx).toNat = n) ∧
    (∀ a, s.cfg.addr = some a → a.length < 2 ^ 64 →
      (statAnswer s (.cfg .addr) idx).toNat = a.length) ∧
    (∀ ps, s.cfg.ports = some ps → (∀ q ∈ ps, q < 65536) →
      (statAnswer s (.cfg .ports) idx).toNat = ps.getD idx.toNat 0) ∧
    (∀ b, s.cfg.enc = some b → (statAnswer s (.cfg .enc) idx).toNat = b.toNat)

/-- 46 R255, 45 R236, 43 R190, 41 R156, R159: a PUSH in a run completes, keeps the run's invariant, and
the carry, the phases, the queue, the counter and the number of events follow from the lengths alone.
Frame: everything PUSH has no business with.
The spec marks R156, R159 and R236 as its own inference. -/
def Obligations.PushCompletesAndCounts : Prop :=
  ∀ (c : Settings) (s : State) (data : List Byte) (N n1 n2 n3 frames : Nat), Running c s →
    N = (s.carry.length + data.length) / bpsOf c.enc → n1 = (s.dec1.ph + N) / 8 →
    n2 = (s.dec2.ph + n1) / 5 → n3 = (s.dec3.ph + n2) / 5 →
    frames = (s.acc.length + n3) / (c.pkt - 1) →
    ∃ t : State, exec (.push data) s = .next t ∧ Running c t ∧
      t.carry.length = (s.carry.length + data.length) % bpsOf c.enc ∧
      t.dec1.ph = (s.dec1.ph + N) % 8 ∧ t.dec2.ph = (s.dec2.ph + n1) % 5 ∧
      t.dec3.ph = (s.dec3.ph + n2) % 5 ∧ t.acc.length = (s.acc.length + n3) % (c.pkt - 1) ∧
      t.cnt = s.cnt + frames * (c.pkt - 1) ∧
      t.out.length = s.out.length + c.ports.length * frames ∧
      (frames = 0 → t.host.nClock = s.host.nClock ∧ t.anch = s.anch) ∧ t.resp = .done ∧
      t = { s with carry := t.carry, nco := { s.nco with phase := t.nco.phase }, dec1 := t.dec1,
                   dec2 := t.dec2, dec3 := t.dec3, acc := t.acc, cnt := t.cnt, anch := t.anch,
                   dfail := t.dfail, out := t.out, host := t.host, resp := t.resp }

/-- 45 R236, 41 R159: from a fresh pipeline, L bytes give `N = L div BPS` samples, `M = N div 200` outputs
of the cascade and `M div (P − 1)` frames to each destination. (By chunk independence this holds of
every cutting of the stream.)
The spec marks R159 and R236 as its own inference. -/
def Obligations.FreshRunFrameCounts : Prop :=
  ∀ (c : Settings) (s t : State) (data : List Byte) (M : Nat), Running c s →
    s.carry = [] → s.acc = [] → s.cnt = 0 → s.out = [] →
    s.dec1.ph = 0 → s.dec2.ph = 0 → s.dec3.ph = 0 →
    M = data.length / bpsOf c.enc / 200 → exec (.push data) s = .next t →
    t.cnt = M / (c.pkt - 1) * (c.pkt - 1) ∧ t.acc.length = M % (c.pkt - 1) ∧
    t.carry.length = data.length % bpsOf c.enc ∧
    t.out.length = c.ports.length * (M / (c.pkt - 1)) ∧
    (data.length / bpsOf c.enc < 200 * (c.pkt - 1) ↔ t.out = [])

/-- 46 R255, R261, 43 R193, 41 R158, 45 R231, R234, R235, 20_memory R76, R77: in a run a PUSH is
CARRY.SPLIT, the converter that `CFG_ENC` selects, NCO.RUN and DEC.RUN of stages 1, 2, 3, each given what
the one before hands back, and then the framer: its events are, frame after frame and destination after
destination, the serialised frames of the queue and the outputs of stage 3 in order, frame j under the
header of the counter plus j·(P − 1). The results are the host's answers, the scripted ones first (log 9),
and every failed delivery is counted.
The spec marks R77, R235 and R261 as its own inference. -/
def Obligations.PushEmitsTheFramesInOrder : Prop :=
  ∀ (c : Settings) (s : State) (data : List Byte), Running c s →
    ∃ (s1 s2 s3 s4 s5 s6 t : State) (bs : List Byte) (x0 x1 y1 y2 y3 q : List Sample) (frames : Nat)
      (hdr : Nat → Sample) (es : List Event),
      exec (.carrySplit data) s = .next s1 ∧ s1.resp = .bytes bs ∧
      exec (if c.enc = 0 then .convS16 bs else .convF32 bs) s1 = .next s2 ∧ s2.resp = .samples x0 ∧
      exec (.ncoRun x0) s2 = .next s3 ∧ s3.resp = .samples x1 ∧
      exec (.decRun .s1 x1) s3 = .next s4 ∧ s4.resp = .samples y1 ∧
      exec (.decRun .s2 y1) s4 = .next s5 ∧ s5.resp = .samples y2 ∧
      exec (.decRun .s3 y2) s5 = .next s6 ∧ s6.resp = .samples y3 ∧
      exec (.push data) s = .next t ∧ t.carry = s6.carry ∧ t.nco = s6.nco ∧
      (∀ k, t.dec k = s6.dec k) ∧
      q = s.acc ++ y3 ∧ frames = q.length / (c.pkt - 1) ∧ t.acc = q.drop (frames * (c.pkt - 1)) ∧
      (∀ j, j < frames →
        exec (.tsHeader (s.cnt + j * (c.pkt - 1))) t = .next { t with resp := .samples [hdr j] }) ∧
      t.out = s.out ++ es ∧
      (es.map fun e => (e.dest, e.bytes)) =
        ((List.range frames).flatMap fun j => (List.range c.ports.length).map fun d =>
          (d, serialise s.params.endian
            (hdr j :: (q.drop (j * (c.pkt - 1))).take (c.pkt - 1)))) ∧
      (∀ j, j < es.length → j < s.host.emits.length → es[j]?.map Event.ok = s.host.emits[j]?) ∧
      ∀ d : Nat, t.dfail[d]? =
        s.dfail[d]?.map fun n => n + es.countP fun e => e.dest == d && !e.ok

/-- 46 R261: what a run computes does not depend on how its stream was cut. Two PUSHes leave exactly the
state of the one PUSH of both chunks together, the event history included.
The spec marks R261 as its own inference. -/
def Obligations.PushIndependentOfChunking : Prop :=
  ∀ (c : Settings) (s t u : State) (a b : List Byte), Running c s →
    exec (.push a) s = .next t → exec (.push b) t = .next u →
    exec (.push (a ++ b)) s = .next u

/-- 46 R255 (corner case), 95 V-CTL-4: an empty PUSH does nothing at all in a run. -/
def Obligations.EmptyPushDoesNothing : Prop :=
  ∀ (c : Settings) (s : State), Running c s →
    exec (.push []) s = .next { s with resp := .done }

/-- 46 R257, R258, 92 D25: EOS and CANCEL end the run, drop the partial frame and the partial sample, emit
nothing, and set the status: `EXIT_OK`, and the parameter `STATUS_CANCELLED`. -/
def Obligations.EosAndCancelEndTheRun : Prop :=
  ∀ s : State, s.run = .running →
    exec .eos s = .next
      { s with acc := [], carry := [], run := .done, status := .ok, resp := .done } ∧
    exec .cancel s = .next
      { s with acc := [], carry := [], run := .done, status := s.params.statusCancelled,
               resp := .done }

/-- 46 R259: REANCHOR completes while `RUNNING`, clears `ANCH.VALID` alone, and the next header reads the
clock again while the counter is kept. -/
def Obligations.ReanchorMakesTheNextHeaderReadTheClock : Prop :=
  ∀ (s : State) (i : Nat), s.run = .running →
    ∃ t : State, t = { s with anch := { s.anch with valid := false }, resp := .done } ∧
      exec .reanchor s = .next t ∧
      ∃ u : State, exec (.tsHeader i) t = .next u ∧
        u.host.nClock = s.host.nClock + 1 ∧ u.anch.valid = true ∧ u.cnt = s.cnt

/-- 46 R250: a command in a lifecycle state that refuses it changes no state, produces no event and raises
nothing. (That the machine goes on from it, with the refusal in the response, is the model's
choice: log 11.) -/
def Obligations.RefusedCommandsChangeNothing : Prop :=
  ∀ (s : State) (i : Instr),
    (s.run ≠ .unconfigured ∧ (i = .start ∨ ∃ reg value, i = .cfgwr reg value)) ∨
      (s.run ≠ .running ∧
        (i = .eos ∨ i = .cancel ∨ i = .reanchor ∨ ∃ data, i = .push data)) →
    exec i s = .next { s with resp := .refused .wrongState }

/-! ## Stops -/

/-- 41_cascaded_decimator R150 ("the operation is total"), 60_exceptions R299, and the "Errors: none" of the
operations' rules: whatever the state, every operation gives a next state but two. 45 R231: FRM.FLUSH stops exactly
outside its precondition, in the fault `flushPrecondition`. R233: a PUSH in a run stops, in the fault
`flushNeverEnds`, only where `CFG_PKT` is below 2, so that its flush loop would not end. No operation is refused by
the model. (The two faults are log 22. That no operation stops for a register nothing has written, and that
`CFG_PKT` reads 0 then, is the model's choice: log 18.) -/
def Obligations.NothingStopsButTheFlush : Prop :=
  ∀ (i : Instr) (s : State) (p : Nat), s.cfg.pkt = some p ∨ (s.cfg.pkt = none ∧ p = 0) →
    (i = .frmFlush → s.acc.length < p - 1 → exec i s = .fault .flushPrecondition) ∧
    ((∃ t : State, exec i s = .next t) ∨ (i = .frmFlush ∧ s.acc.length < p - 1) ∨
      ((∃ data, i = .push data) ∧ s.run = .running ∧ p < 2 ∧ exec i s = .fault .flushNeverEnds))

/-! ## One step -/

/-- 30_encoding R110, R113, 20_memory R75: a step runs the command whose bytes stand at the head of the
command port, its bytes taken; an operation put on the bench runs likewise (log 13). 70 R325: it does so
where the host gives every answer asked for, and else the block waits, its state and the bytes as they
were (log 41). -/
def Obligations.StepRunsTheDecodedOperation : Prop :=
  ∀ (s s' : State) (i : Instr) (rest : List Byte),
    NoSignalNext s →
    ((s.bench = [] ∧ decode s.port = .ok i rest ∧ isHostCommand i = true ∧
        s' = { s with port := rest, host := { s.host with waiting := false } }) ∨
      (decode s.bench = .ok i rest ∧ isHostCommand i = false ∧
        s' = { s with bench := rest, host := { s.host with waiting := false } })) →
    (s.host.limit = none → step s = exec i s') ∧
    (∀ f, exec i s' = .fault f → step s = .fault f) ∧
    ∀ (m : AnswerCounts) (t : State), s.host.limit = some m → exec i s' = .next t →
      step s =
        if t.host.nParsable ≤ max s.host.nParsable m.parsable ∧
            t.host.nSinkOpen ≤ max s.host.nSinkOpen m.sinkOpen ∧
            t.host.nClock ≤ max s.host.nClock m.clock ∧ t.host.nEmit ≤ max s.host.nEmit m.emit
        then .next t
        else .next { s with host := { s.host with waiting := true } }

/-- 30_encoding R113: a command byte above 0x07, a micro-operation's code among them, and a CFGWR or STATRD
of a register number R112 does not list are refused without effect. (That the one byte, or the whole
command, is taken from the port is the model's: log 12. That the machine goes on from a refusal, with the
reason in the response, is too: log 11.) -/
def Obligations.IllegalCommandsAreRefused : Prop :=
  ∀ (s : State) (op n lo hi : Byte) (rest : List Byte),
    NoSignalNext s → s.bench = [] →
    (s.port = op :: rest → 8 ≤ op.toNat →
      ∃ why, step s = .next { s with port := rest, resp := .refused why }) ∧
    (s.port = 0x01 :: n :: lo :: hi :: rest → 0x07 ≤ n.toNat →
      lo.toNat + 256 * hi.toNat ≤ rest.length →
      step s = .next { s with port := rest.drop (lo.toNat + 256 * hi.toNat),
                              resp := .refused (.unknownRegister n) }) ∧
    (s.port = 0x07 :: n :: lo :: hi :: rest →
      ((0x07 ≤ n.toNat ∧ n.toNat < 0x10) ∨ 0x1A < n.toNat) →
      step s = .next { s with port := rest, resp := .refused (.unknownRegister n) })

/-- 60_exceptions R297: with no command the block waits and keeps all its state. (That it waits likewise for
the rest of a command whose bytes are not all there is the model's: log 12.) -/
def Obligations.WaitsForAWholeCommand : Prop :=
  ∀ (s : State) (i : Instr) (missing : List Byte),
    NoSignalNext s → s.bench = [] → i.WF →
    isHostCommand i = true → missing ≠ [] → s.port ++ missing = encode i → step s = .next s

/-- 60_exceptions R286, R288 (c): a termination signal raised in a run, or while a command is in progress,
is pending until that command is done (one that waits for the host, log 41), and is then taken, before
any other command, as CANCEL: in a run, one that a START in progress has begun among them, it ends the
run; where the run has failed, or none has begun, it is refused. Raised in any other state it is refused
without effect. RESET clears it. (That it is held as taken until RESET, with no further effect, is the
model's reading of "cleared only by RESET", and so is that a refused one leaves nothing: log 20. That a
command on the port which no step has begun is not in progress is the model's choice: log 42.) -/
def Obligations.TerminationSignalIsTakenAsCancel : Prop :=
  ∀ s : State,
    (s.run = .running ∨ (s.host.waiting = true ∧ s.run ≠ .done) →
      s.raiseTermination = { s with term := .pending }) ∧
    (s.run ≠ .running → s.host.waiting = false ∨ s.run = .done →
      s.raiseTermination = { s with resp := .refused .wrongState }) ∧
    (s.host.waiting = true → fetch s.raiseTermination = nextOperation s.raiseTermination) ∧
    (s.term = .pending → s.host.waiting = false → s.rst = false →
      (s.run = .running → step s = .next
        { s with acc := [], carry := [], run := .done, status := s.params.statusCancelled,
                 term := .taken, resp := .done }) ∧
      (s.run ≠ .running → step s = .next
        { s with term := .clear, resp := .refused .wrongState })) ∧
    ∃ t : State, exec .reset s = .next t ∧ t.term = .clear

/-! ## Encoding -/

/-- 30_encoding R110, R111, R112, R114: decoding the bytes of any well-formed operation, whatever follows
them, gives that operation and what follows. (The operand forms of the micro-operations are the
model's: log 13.) -/
def Obligations.DecodeOfEncode : Prop :=
  ∀ (i : Instr) (rest : List Byte), i.WF → decode (encode i ++ rest) = .ok i rest

/-- 30_encoding R110 to R114: bytes that decode to an operation are that operation's bytes, so no two byte
sequences mean the same operation. (The operand forms of the micro-operations are the model's: log 13.) -/
def Obligations.EncodeOfDecode : Prop :=
  ∀ (bs rest : List Byte) (i : Instr), decode bs = .ok i rest → bs = encode i ++ rest ∧ i.WF

/-- 95_test_vectors P1, P2: a few commands as the spec writes their bytes. -/
def Obligations.SpecBytesDecode : Prop :=
  decode [0x01, 0x02, 0x08, 0x00, 0x03, 0x00, 0x00, 0x00, 0x00, 0x00, 0x00, 0x00] =
      .ok (.cfgwr .pkt [0x03, 0x00, 0x00, 0x00, 0x00, 0x00, 0x00, 0x00]) [] ∧
    decode [0x03, 0x07, 0x00, 0x00, 0x00, 0x00, 0x06, 0xFF, 0xFB, 0x00, 0x05, 0xFF] =
      .ok (.push [0x00, 0x06, 0xFF, 0xFB, 0x00, 0x05, 0xFF]) [] ∧
    decode [0x07, 0x13, 0x01, 0x00, 0x04] = .ok (.statrd .dfail 1) [0x04] ∧
    decode [0x02] = .ok .start []

/-! ## The whole machine -/

/-- 10_state R29 to R42, R49, 60_exceptions R280, R293: the invariant of the block driven from its command
port is kept by every step. (That the stages have their shape before START too is log 18.) -/
def Obligations.StepKeepsTheInvariant : Prop :=
  ∀ s t : State, Inv s → step s = .next t → Inv t

/-- The reset state meets the invariant (10_state R48; the stages' shape is log 18). -/
def Obligations.ResetMeetsTheInvariant : Prop := Inv State.reset

/-- 10_state R33 to R36: every operation, on whatever state it is put to, keeps in every stage
`T[k]` coefficients and `T[k]` history samples, the cursor inside the history and the phase below the factor. (That
RESET leaves stages of that shape is log 18.) -/
def Obligations.EveryOperationKeepsTheStagesShaped : Prop :=
  ∀ (i : Instr) (s t : State), StagesShaped s → exec i s = .next t → StagesShaped t

/-- 20_memory R80, 10_state R20, R28, R31 to R33: once START has run, no operation but RESET writes the
configuration, a derived constant, the oscillator's step or bypass, or a coefficient; and no operation
at all writes the parameters (70 R323). -/
def Obligations.ConfigurationIsFrozenByStart : Prop :=
  ∀ (i : Instr) (s t : State), exec i s = .next t →
    t.params = s.params ∧ (s.run ≠ .unconfigured → i ≠ .reset → SameFrozen s t)

/-- 46 R260, 10_state R41, 60_exceptions R291: after the end of a run no host command but RESET changes
anything but the response, so nothing is emitted and the state is left by RESET alone. -/
def Obligations.EndedRunStaysEnded : Prop :=
  ∀ (i : Instr) (s t : State), s.run = .done ∨ s.run = .failed → isHostCommand i = true →
    i ≠ .reset → exec i s = .next t → t = { s with resp := t.resp }

/-- 10_state R47, 20_memory R66, 70 R325: the event history only grows, at its end, by deliveries that
PUSH, FRM.FLUSH and FRM.SEND make; RESET alone starts it afresh. -/
def Obligations.EventHistoryOnlyGrows : Prop :=
  ∀ (i : Instr) (s t : State), i ≠ .reset → exec i s = .next t →
    ∃ es : List Event, t.out = s.out ++ es ∧
      (es ≠ [] → i = .frmFlush ∨ (∃ data, i = .push data) ∨ ∃ bytes, i = .frmSend bytes) ∧
      ∀ e ∈ es, e.dest < s.der.ndest

/-- 44 R211, 70 R336: no operation reads the clock more than once, none reads it while an anchor is held,
and one that reads it leaves the anchor held. -/
def Obligations.ClockIsReadOnce : Prop :=
  ∀ (i : Instr) (s t : State), exec i s = .next t →
    t.host.nClock = s.host.nClock ∨
      (s.anch.valid = false ∧ t.anch.valid = true ∧ t.host.nClock = s.host.nClock + 1)

/-- 45 R235, 10_state R38: the counter never goes back but by RESET or START; PUSH and FRM.FLUSH alone move
it, by whole payloads. (That `CFG_PKT` reads 0 while unwritten is log 18.)
The spec marks R235 as its own inference. -/
def Obligations.CounterMovesByWholePayloads : Prop :=
  ∀ (i : Instr) (s t : State), i ≠ .reset → i ≠ .start → exec i s = .next t →
    t.cnt = s.cnt ∨ ((i = .frmFlush ∨ ∃ data, i = .push data) ∧
      ∃ f, t.cnt = s.cnt + f * (s.pktValue - 1))

/-- 46 R261, 45 R234, R284: delivery results reach nothing but the failure counters and the results in the
event history. Two states that differ in these and in the answers to come alone still do so after any
operation but STATRD.
The spec marks R261 as its own inference. -/
def Obligations.DeliveryResultsReachNothingElse : Prop :=
  ∀ (i : Instr) (s s' t t' : State), (∀ reg idx, i ≠ .statrd reg idx) →
    s.withoutDeliveries = s'.withoutDeliveries → exec i s = .next t → exec i s' = .next t' →
    t.withoutDeliveries = t'.withoutDeliveries
end

