-- ==== Sys2Proof/Laws/Numerics.lean ====
section
/-! SUPPORT. What may be said of the platform's sine and cosine (log 4): parity, the values at zero and at
an angle that is not finite, and the range elsewhere. -/

namespace Sys2Proof.Laws

open Sys2Proof.Machine

theorem absMask_bit : ∀ i : Nat, (0x7FFFFFFFFFFFFFFF : F64).getLsbD i = decide (i < 63) := by
  intro i
  by_cases h : i < 64
  · revert i
    decide
  · rw [BitVec.getLsbD_of_ge _ _ (by omega)]
    simp
    omega

theorem signMask_bit : ∀ i : Nat, (0x8000000000000000 : F64).getLsbD i = decide (i = 63) := by
  intro i
  by_cases h : i < 64
  · revert i
    decide
  · rw [BitVec.getLsbD_of_ge _ _ (by omega)]
    simp
    omega

@[simp] theorem f64Neg_f64Neg (x : F64) : f64Neg (f64Neg x) = x := by
  simp [f64Neg]

@[simp] theorem f64Abs_f64Neg (x : F64) : f64Abs (f64Neg x) = f64Abs x := by
  refine BitVec.eq_of_getLsbD_eq fun i _ => ?_
  rw [f64Abs, f64Abs, f64Neg, BitVec.getLsbD_and, BitVec.getLsbD_and, BitVec.getLsbD_xor, absMask_bit,
    signMask_bit]
  by_cases h : i < 63
  · simp [show ¬ i = 63 by omega]
  · simp [h]

@[simp] theorem f64Sign_f64Neg (x : F64) : f64Sign (f64Neg x) = !f64Sign x := by
  rw [f64Sign, f64Neg, BitVec.getLsbD_xor, signMask_bit]
  simp [f64Sign]

/-- A word with a clear sign bit is its own magnitude. -/
theorem f64Abs_of_pos {x : F64} (h : f64Sign x = false) : f64Abs x = x := by
  refine BitVec.eq_of_getLsbD_eq fun i hi => ?_
  rw [f64Abs, BitVec.getLsbD_and, absMask_bit]
  by_cases h63 : i < 63
  · simp [h63]
  · have : i = 63 := by omega
    subst this
    simpa [f64Sign] using h.symm

/-- The sine is odd (40 R137 (b), R138). -/
theorem sinOf_neg (p : Params) (x : F64) : sinOf p (f64Neg x) = f64Neg (sinOf p x) := by
  cases hx : f64Sign x with
  | true =>
    have : f64Abs x = f64Neg x := by rw [← f64Abs_f64Neg, f64Abs_of_pos (by simp [hx])]
    simp [sinOf, hx, this]
  | false => simp [sinOf, hx, f64Abs_of_pos hx]

/-- The cosine is even. -/
theorem cosOf_neg (p : Params) (x : F64) : cosOf p (f64Neg x) = cosOf p x := by
  simp [cosOf]

theorem unitValue_range (v : F64) :
    f64IsFinite (unitValue v) = true ∧ f64Lt 0x3FF0000000000000 (f64Abs (unitValue v)) = false := by
  unfold unitValue
  split
  · assumption
  · exact ⟨by decide +kernel, by decide +kernel⟩

/-- A word that stands for any NaN is a NaN. -/
theorem someNan64_isNan (v : F64) : isNan64 (someNan64 v) = true := by
  unfold someNan64
  split
  · assumption
  · decide

theorem someNan32_isNan (v : W32) : isNan32 (someNan32 v) = true := by
  unfold someNan32
  split
  · assumption
  · decide

/-- The sine of a zero is that zero (40 R138). -/
theorem sinOf_zero (p : Params) : sinOf p 0 = 0 ∧ sinOf p 0x8000000000000000 = 0x8000000000000000 := by
  have h : sinMag p 0 = 0 := by
    rw [sinMag, if_neg (by decide), if_pos (by decide)]
  constructor
  · rw [sinOf, if_neg (by decide), h]
  · rw [sinOf, if_pos (by decide), show f64Abs 0x8000000000000000 = 0 by decide, h]
    decide

end Sys2Proof.Laws
end

