-- ==== Sys2Proof/Laws/State.lean ====
section
/-! SUPPORT. One lemma per field for each named update of the state, all by definition, so that no
later proof unfolds a record update. -/

namespace Sys2Proof.Laws

open Sys2Proof.Machine

@[simp] theorem respond_cfg (s : State) (r : Resp) : (s.respond r).cfg = s.cfg := rfl
@[simp] theorem respond_der (s : State) (r : Resp) : (s.respond r).der = s.der := rfl
@[simp] theorem respond_carry (s : State) (r : Resp) : (s.respond r).carry = s.carry := rfl
@[simp] theorem respond_nco (s : State) (r : Resp) : (s.respond r).nco = s.nco := rfl
@[simp] theorem respond_dec1 (s : State) (r : Resp) : (s.respond r).dec1 = s.dec1 := rfl
@[simp] theorem respond_dec2 (s : State) (r : Resp) : (s.respond r).dec2 = s.dec2 := rfl
@[simp] theorem respond_dec3 (s : State) (r : Resp) : (s.respond r).dec3 = s.dec3 := rfl
@[simp] theorem respond_acc (s : State) (r : Resp) : (s.respond r).acc = s.acc := rfl
@[simp] theorem respond_cnt (s : State) (r : Resp) : (s.respond r).cnt = s.cnt := rfl
@[simp] theorem respond_anch (s : State) (r : Resp) : (s.respond r).anch = s.anch := rfl
@[simp] theorem respond_dfail (s : State) (r : Resp) : (s.respond r).dfail = s.dfail := rfl
@[simp] theorem respond_run (s : State) (r : Resp) : (s.respond r).run = s.run := rfl
@[simp] theorem respond_status (s : State) (r : Resp) : (s.respond r).status = s.status := rfl
@[simp] theorem respond_cause (s : State) (r : Resp) : (s.respond r).cause = s.cause := rfl
@[simp] theorem respond_causeInfo (s : State) (r : Resp) : (s.respond r).causeInfo = s.causeInfo := rfl
@[simp] theorem respond_term (s : State) (r : Resp) : (s.respond r).term = s.term := rfl
@[simp] theorem respond_rst (s : State) (r : Resp) : (s.respond r).rst = s.rst := rfl
@[simp] theorem respond_out (s : State) (r : Resp) : (s.respond r).out = s.out := rfl
@[simp] theorem respond_resp (s : State) (r : Resp) : (s.respond r).resp = r := rfl
@[simp] theorem respond_port (s : State) (r : Resp) : (s.respond r).port = s.port := rfl
@[simp] theorem respond_bench (s : State) (r : Resp) : (s.respond r).bench = s.bench := rfl
@[simp] theorem respond_host (s : State) (r : Resp) : (s.respond r).host = s.host := rfl
@[simp] theorem respond_params (s : State) (r : Resp) : (s.respond r).params = s.params := rfl

@[simp] theorem refuse_cfg (s : State) (w : Reject) : (s.refuse w).cfg = s.cfg := rfl
@[simp] theorem refuse_der (s : State) (w : Reject) : (s.refuse w).der = s.der := rfl
@[simp] theorem refuse_carry (s : State) (w : Reject) : (s.refuse w).carry = s.carry := rfl
@[simp] theorem refuse_nco (s : State) (w : Reject) : (s.refuse w).nco = s.nco := rfl
@[simp] theorem refuse_dec1 (s : State) (w : Reject) : (s.refuse w).dec1 = s.dec1 := rfl
@[simp] theorem refuse_dec2 (s : State) (w : Reject) : (s.refuse w).dec2 = s.dec2 := rfl
@[simp] theorem refuse_dec3 (s : State) (w : Reject) : (s.refuse w).dec3 = s.dec3 := rfl
@[simp] theorem refuse_acc (s : State) (w : Reject) : (s.refuse w).acc = s.acc := rfl
@[simp] theorem refuse_cnt (s : State) (w : Reject) : (s.refuse w).cnt = s.cnt := rfl
@[simp] theorem refuse_anch (s : State) (w : Reject) : (s.refuse w).anch = s.anch := rfl
@[simp] theorem refuse_dfail (s : State) (w : Reject) : (s.refuse w).dfail = s.dfail := rfl
@[simp] theorem refuse_run (s : State) (w : Reject) : (s.refuse w).run = s.run := rfl
@[simp] theorem refuse_status (s : State) (w : Reject) : (s.refuse w).status = s.status := rfl
@[simp] theorem refuse_cause (s : State) (w : Reject) : (s.refuse w).cause = s.cause := rfl
@[simp] theorem refuse_causeInfo (s : State) (w : Reject) : (s.refuse w).causeInfo = s.causeInfo := rfl
@[simp] theorem refuse_term (s : State) (w : Reject) : (s.refuse w).term = s.term := rfl
@[simp] theorem refuse_rst (s : State) (w : Reject) : (s.refuse w).rst = s.rst := rfl
@[simp] theorem refuse_out (s : State) (w : Reject) : (s.refuse w).out = s.out := rfl
@[simp] theorem refuse_resp (s : State) (w : Reject) : (s.refuse w).resp = .refused w := rfl
@[simp] theorem refuse_port (s : State) (w : Reject) : (s.refuse w).port = s.port := rfl
@[simp] theorem refuse_bench (s : State) (w : Reject) : (s.refuse w).bench = s.bench := rfl
@[simp] theorem refuse_host (s : State) (w : Reject) : (s.refuse w).host = s.host := rfl
@[simp] theorem refuse_params (s : State) (w : Reject) : (s.refuse w).params = s.params := rfl

@[simp] theorem takeError_cfg (e : Err) (n : Nat) (s : State) : (takeError e n s).cfg = s.cfg := rfl
@[simp] theorem takeError_der (e : Err) (n : Nat) (s : State) : (takeError e n s).der = s.der := rfl
@[simp] theorem takeError_carry (e : Err) (n : Nat) (s : State) : (takeError e n s).carry = s.carry := rfl
@[simp] theorem takeError_nco (e : Err) (n : Nat) (s : State) : (takeError e n s).nco = s.nco := rfl
@[simp] theorem takeError_dec1 (e : Err) (n : Nat) (s : State) : (takeError e n s).dec1 = s.dec1 := rfl
@[simp] theorem takeError_dec2 (e : Err) (n : Nat) (s : State) : (takeError e n s).dec2 = s.dec2 := rfl
@[simp] theorem takeError_dec3 (e : Err) (n : Nat) (s : State) : (takeError e n s).dec3 = s.dec3 := rfl
@[simp] theorem takeError_acc (e : Err) (n : Nat) (s : State) : (takeError e n s).acc = s.acc := rfl
@[simp] theorem takeError_cnt (e : Err) (n : Nat) (s : State) : (takeError e n s).cnt = s.cnt := rfl
@[simp] theorem takeError_anch (e : Err) (n : Nat) (s : State) : (takeError e n s).anch = s.anch := rfl
@[simp] theorem takeError_dfail (e : Err) (n : Nat) (s : State) : (takeError e n s).dfail = s.dfail := rfl
@[simp] theorem takeError_run (e : Err) (n : Nat) (s : State) : (takeError e n s).run = .failed := rfl
@[simp] theorem takeError_status (e : Err) (n : Nat) (s : State) : (takeError e n s).status = errStatus e := rfl
@[simp] theorem takeError_cause (e : Err) (n : Nat) (s : State) : (takeError e n s).cause = errCode e := rfl
@[simp] theorem takeError_causeInfo (e : Err) (n : Nat) (s : State) : (takeError e n s).causeInfo = BitVec.ofNat 64 n := rfl
@[simp] theorem takeError_term (e : Err) (n : Nat) (s : State) : (takeError e n s).term = s.term := rfl
@[simp] theorem takeError_rst (e : Err) (n : Nat) (s : State) : (takeError e n s).rst = s.rst := rfl
@[simp] theorem takeError_out (e : Err) (n : Nat) (s : State) : (takeError e n s).out = s.out := rfl
@[simp] theorem takeError_resp (e : Err) (n : Nat) (s : State) : (takeError e n s).resp = .raised := rfl
@[simp] theorem takeError_port (e : Err) (n : Nat) (s : State) : (takeError e n s).port = s.port := rfl
@[simp] theorem takeError_bench (e : Err) (n : Nat) (s : State) : (takeError e n s).bench = s.bench := rfl
@[simp] theorem takeError_host (e : Err) (n : Nat) (s : State) : (takeError e n s).host = s.host := rfl
@[simp] theorem takeError_params (e : Err) (n : Nat) (s : State) : (takeError e n s).params = s.params := rfl

@[simp] theorem afterReset_cfg (s : State) : (s.afterReset).cfg = CfgRegs.unwritten := rfl
@[simp] theorem afterReset_der (s : State) : (s.afterReset).der = Derived.reset := rfl
@[simp] theorem afterReset_carry (s : State) : (s.afterReset).carry = [] := rfl
@[simp] theorem afterReset_nco (s : State) : (s.afterReset).nco = Nco.reset := rfl
@[simp] theorem afterReset_dec1 (s : State) : (s.afterReset).dec1 = Dec.reset s.params .s1 := rfl
@[simp] theorem afterReset_dec2 (s : State) : (s.afterReset).dec2 = Dec.reset s.params .s2 := rfl
@[simp] theorem afterReset_dec3 (s : State) : (s.afterReset).dec3 = Dec.reset s.params .s3 := rfl
@[simp] theorem afterReset_acc (s : State) : (s.afterReset).acc = [] := rfl
@[simp] theorem afterReset_cnt (s : State) : (s.afterReset).cnt = 0 := rfl
@[simp] theorem afterReset_anch (s : State) : (s.afterReset).anch = Anchor.reset := rfl
@[simp] theorem afterReset_dfail (s : State) : (s.afterReset).dfail = [] := rfl
@[simp] theorem afterReset_run (s : State) : (s.afterReset).run = .unconfigured := rfl
@[simp] theorem afterReset_status (s : State) : (s.afterReset).status = .none := rfl
@[simp] theorem afterReset_cause (s : State) : (s.afterReset).cause = 0 := rfl
@[simp] theorem afterReset_causeInfo (s : State) : (s.afterReset).causeInfo = 0 := rfl
@[simp] theorem afterReset_term (s : State) : (s.afterReset).term = .clear := rfl
@[simp] theorem afterReset_rst (s : State) : (s.afterReset).rst = false := rfl
@[simp] theorem afterReset_out (s : State) : (s.afterReset).out = [] := rfl
@[simp] theorem afterReset_resp (s : State) : (s.afterReset).resp = .idle := rfl
@[simp] theorem afterReset_port (s : State) : (s.afterReset).port = s.port := rfl
@[simp] theorem afterReset_bench (s : State) : (s.afterReset).bench = s.bench := rfl
@[simp] theorem afterReset_host (s : State) : (s.afterReset).host = s.host := rfl
@[simp] theorem afterReset_params (s : State) : (s.afterReset).params = s.params := rfl

@[simp] theorem afterReset_dec (s : State) (k : Stage) : s.afterReset.dec k = Dec.reset s.params k := by cases k <;> rfl

@[simp] theorem setPhase_cfg (s : State) (p : F64) : (s.setPhase p).cfg = s.cfg := rfl
@[simp] theorem setPhase_der (s : State) (p : F64) : (s.setPhase p).der = s.der := rfl
@[simp] theorem setPhase_carry (s : State) (p : F64) : (s.setPhase p).carry = s.carry := rfl
@[simp] theorem setPhase_nco (s : State) (p : F64) : (s.setPhase p).nco = { s.nco with phase := p } := rfl
@[simp] theorem setPhase_dec1 (s : State) (p : F64) : (s.setPhase p).dec1 = s.dec1 := rfl
@[simp] theorem setPhase_dec2 (s : State) (p : F64) : (s.setPhase p).dec2 = s.dec2 := rfl
@[simp] theorem setPhase_dec3 (s : State) (p : F64) : (s.setPhase p).dec3 = s.dec3 := rfl
@[simp] theorem setPhase_acc (s : State) (p : F64) : (s.setPhase p).acc = s.acc := rfl
@[simp] theorem setPhase_cnt (s : State) (p : F64) : (s.setPhase p).cnt = s.cnt := rfl
@[simp] theorem setPhase_anch (s : State) (p : F64) : (s.setPhase p).anch = s.anch := rfl
@[simp] theorem setPhase_dfail (s : State) (p : F64) : (s.setPhase p).dfail = s.dfail := rfl
@[simp] theorem setPhase_run (s : State) (p : F64) : (s.setPhase p).run = s.run := rfl
@[simp] theorem setPhase_status (s : State) (p : F64) : (s.setPhase p).status = s.status := rfl
@[simp] theorem setPhase_cause (s : State) (p : F64) : (s.setPhase p).cause = s.cause := rfl
@[simp] theorem setPhase_causeInfo (s : State) (p : F64) : (s.setPhase p).causeInfo = s.causeInfo := rfl
@[simp] theorem setPhase_term (s : State) (p : F64) : (s.setPhase p).term = s.term := rfl
@[simp] theorem setPhase_rst (s : State) (p : F64) : (s.setPhase p).rst = s.rst := rfl
@[simp] theorem setPhase_out (s : State) (p : F64) : (s.setPhase p).out = s.out := rfl
@[simp] theorem setPhase_resp (s : State) (p : F64) : (s.setPhase p).resp = s.resp := rfl
@[simp] theorem setPhase_port (s : State) (p : F64) : (s.setPhase p).port = s.port := rfl
@[simp] theorem setPhase_bench (s : State) (p : F64) : (s.setPhase p).bench = s.bench := rfl
@[simp] theorem setPhase_host (s : State) (p : F64) : (s.setPhase p).host = s.host := rfl
@[simp] theorem setPhase_params (s : State) (p : F64) : (s.setPhase p).params = s.params := rfl

@[simp] theorem frmAccum_cfg (run : List Sample) (s : State) : (frmAccum run s).cfg = s.cfg := rfl
@[simp] theorem frmAccum_der (run : List Sample) (s : State) : (frmAccum run s).der = s.der := rfl
@[simp] theorem frmAccum_carry (run : List Sample) (s : State) : (frmAccum run s).carry = s.carry := rfl
@[simp] theorem frmAccum_nco (run : List Sample) (s : State) : (frmAccum run s).nco = s.nco := rfl
@[simp] theorem frmAccum_dec1 (run : List Sample) (s : State) : (frmAccum run s).dec1 = s.dec1 := rfl
@[simp] theorem frmAccum_dec2 (run : List Sample) (s : State) : (frmAccum run s).dec2 = s.dec2 := rfl
@[simp] theorem frmAccum_dec3 (run : List Sample) (s : State) : (frmAccum run s).dec3 = s.dec3 := rfl
@[simp] theorem frmAccum_acc (run : List Sample) (s : State) : (frmAccum run s).acc = s.acc ++ run := rfl
@[simp] theorem frmAccum_cnt (run : List Sample) (s : State) : (frmAccum run s).cnt = s.cnt := rfl
@[simp] theorem frmAccum_anch (run : List Sample) (s : State) : (frmAccum run s).anch = s.anch := rfl
@[simp] theorem frmAccum_dfail (run : List Sample) (s : State) : (frmAccum run s).dfail = s.dfail := rfl
@[simp] theorem frmAccum_run (run : List Sample) (s : State) : (frmAccum run s).run = s.run := rfl
@[simp] theorem frmAccum_status (run : List Sample) (s : State) : (frmAccum run s).status = s.status := rfl
@[simp] theorem frmAccum_cause (run : List Sample) (s : State) : (frmAccum run s).cause = s.cause := rfl
@[simp] theorem frmAccum_causeInfo (run : List Sample) (s : State) : (frmAccum run s).causeInfo = s.causeInfo := rfl
@[simp] theorem frmAccum_term (run : List Sample) (s : State) : (frmAccum run s).term = s.term := rfl
@[simp] theorem frmAccum_rst (run : List Sample) (s : State) : (frmAccum run s).rst = s.rst := rfl
@[simp] theorem frmAccum_out (run : List Sample) (s : State) : (frmAccum run s).out = s.out := rfl
@[simp] theorem frmAccum_resp (run : List Sample) (s : State) : (frmAccum run s).resp = s.resp := rfl
@[simp] theorem frmAccum_port (run : List Sample) (s : State) : (frmAccum run s).port = s.port := rfl
@[simp] theorem frmAccum_bench (run : List Sample) (s : State) : (frmAccum run s).bench = s.bench := rfl
@[simp] theorem frmAccum_host (run : List Sample) (s : State) : (frmAccum run s).host = s.host := rfl
@[simp] theorem frmAccum_params (run : List Sample) (s : State) : (frmAccum run s).params = s.params := rfl

@[simp] theorem endRun_cfg (x : ExitStatus) (s : State) : (endRun x s).cfg = s.cfg := rfl
@[simp] theorem endRun_der (x : ExitStatus) (s : State) : (endRun x s).der = s.der := rfl
@[simp] theorem endRun_carry (x : ExitStatus) (s : State) : (endRun x s).carry = [] := rfl
@[simp] theorem endRun_nco (x : ExitStatus) (s : State) : (endRun x s).nco = s.nco := rfl
@[simp] theorem endRun_dec1 (x : ExitStatus) (s : State) : (endRun x s).dec1 = s.dec1 := rfl
@[simp] theorem endRun_dec2 (x : ExitStatus) (s : State) : (endRun x s).dec2 = s.dec2 := rfl
@[simp] theorem endRun_dec3 (x : ExitStatus) (s : State) : (endRun x s).dec3 = s.dec3 := rfl
@[simp] theorem endRun_acc (x : ExitStatus) (s : State) : (endRun x s).acc = [] := rfl
@[simp] theorem endRun_cnt (x : ExitStatus) (s : State) : (endRun x s).cnt = s.cnt := rfl
@[simp] theorem endRun_anch (x : ExitStatus) (s : State) : (endRun x s).anch = s.anch := rfl
@[simp] theorem endRun_dfail (x : ExitStatus) (s : State) : (endRun x s).dfail = s.dfail := rfl
@[simp] theorem endRun_run (x : ExitStatus) (s : State) : (endRun x s).run = .done := rfl
@[simp] theorem endRun_status (x : ExitStatus) (s : State) : (endRun x s).status = x := rfl
@[simp] theorem endRun_cause (x : ExitStatus) (s : State) : (endRun x s).cause = s.cause := rfl
@[simp] theorem endRun_causeInfo (x : ExitStatus) (s : State) : (endRun x s).causeInfo = s.causeInfo := rfl
@[simp] theorem endRun_term (x : ExitStatus) (s : State) : (endRun x s).term = s.term := rfl
@[simp] theorem endRun_rst (x : ExitStatus) (s : State) : (endRun x s).rst = s.rst := rfl
@[simp] theorem endRun_out (x : ExitStatus) (s : State) : (endRun x s).out = s.out := rfl
@[simp] theorem endRun_resp (x : ExitStatus) (s : State) : (endRun x s).resp = s.resp := rfl
@[simp] theorem endRun_port (x : ExitStatus) (s : State) : (endRun x s).port = s.port := rfl
@[simp] theorem endRun_bench (x : ExitStatus) (s : State) : (endRun x s).bench = s.bench := rfl
@[simp] theorem endRun_host (x : ExitStatus) (s : State) : (endRun x s).host = s.host := rfl
@[simp] theorem endRun_params (x : ExitStatus) (s : State) : (endRun x s).params = s.params := rfl

@[simp] theorem loadDerived_cfg (c : Settings) (s : State) : (loadDerived c s).cfg = s.cfg := rfl
@[simp] theorem loadDerived_carry (c : Settings) (s : State) : (loadDerived c s).carry = s.carry := rfl
@[simp] theorem loadDerived_dec1 (c : Settings) (s : State) : (loadDerived c s).dec1 = s.dec1 := rfl
@[simp] theorem loadDerived_dec2 (c : Settings) (s : State) : (loadDerived c s).dec2 = s.dec2 := rfl
@[simp] theorem loadDerived_dec3 (c : Settings) (s : State) : (loadDerived c s).dec3 = s.dec3 := rfl
@[simp] theorem loadDerived_acc (c : Settings) (s : State) : (loadDerived c s).acc = s.acc := rfl
@[simp] theorem loadDerived_cnt (c : Settings) (s : State) : (loadDerived c s).cnt = s.cnt := rfl
@[simp] theorem loadDerived_anch (c : Settings) (s : State) : (loadDerived c s).anch = s.anch := rfl
@[simp] theorem loadDerived_dfail (c : Settings) (s : State) : (loadDerived c s).dfail = s.dfail := rfl
@[simp] theorem loadDerived_run (c : Settings) (s : State) : (loadDerived c s).run = s.run := rfl
@[simp] theorem loadDerived_status (c : Settings) (s : State) : (loadDerived c s).status = s.status := rfl
@[simp] theorem loadDerived_cause (c : Settings) (s : State) : (loadDerived c s).cause = s.cause := rfl
@[simp] theorem loadDerived_causeInfo (c : Settings) (s : State) : (loadDerived c s).causeInfo = s.causeInfo := rfl
@[simp] theorem loadDerived_term (c : Settings) (s : State) : (loadDerived c s).term = s.term := rfl
@[simp] theorem loadDerived_rst (c : Settings) (s : State) : (loadDerived c s).rst = s.rst := rfl
@[simp] theorem loadDerived_out (c : Settings) (s : State) : (loadDerived c s).out = s.out := rfl
@[simp] theorem loadDerived_resp (c : Settings) (s : State) : (loadDerived c s).resp = s.resp := rfl
@[simp] theorem loadDerived_port (c : Settings) (s : State) : (loadDerived c s).port = s.port := rfl
@[simp] theorem loadDerived_bench (c : Settings) (s : State) : (loadDerived c s).bench = s.bench := rfl
@[simp] theorem loadDerived_host (c : Settings) (s : State) : (loadDerived c s).host = s.host := rfl
@[simp] theorem loadDerived_params (c : Settings) (s : State) : (loadDerived c s).params = s.params := rfl

@[simp] theorem buildPipeline_cfg (c : Settings) (s : State) : (buildPipeline c s).cfg = s.cfg := rfl
@[simp] theorem buildPipeline_der (c : Settings) (s : State) : (buildPipeline c s).der = s.der := rfl
@[simp] theorem buildPipeline_carry (c : Settings) (s : State) : (buildPipeline c s).carry = [] := rfl
@[simp] theorem buildPipeline_nco (c : Settings) (s : State) : (buildPipeline c s).nco = { s.nco with phase := 0 } := rfl
@[simp] theorem buildPipeline_dec1 (c : Settings) (s : State) : (buildPipeline c s).dec1 = builtStage s.params .s1 := rfl
@[simp] theorem buildPipeline_dec2 (c : Settings) (s : State) : (buildPipeline c s).dec2 = builtStage s.params .s2 := rfl
@[simp] theorem buildPipeline_dec3 (c : Settings) (s : State) : (buildPipeline c s).dec3 = builtStage s.params .s3 := rfl
@[simp] theorem buildPipeline_acc (c : Settings) (s : State) : (buildPipeline c s).acc = [] := rfl
@[simp] theorem buildPipeline_cnt (c : Settings) (s : State) : (buildPipeline c s).cnt = 0 := rfl
@[simp] theorem buildPipeline_anch (c : Settings) (s : State) : (buildPipeline c s).anch = { s.anch with valid := false } := rfl
@[simp] theorem buildPipeline_dfail (c : Settings) (s : State) : (buildPipeline c s).dfail = List.replicate c.ports.length 0 := rfl
@[simp] theorem buildPipeline_run (c : Settings) (s : State) : (buildPipeline c s).run = .running := rfl
@[simp] theorem buildPipeline_status (c : Settings) (s : State) : (buildPipeline c s).status = s.status := rfl
@[simp] theorem buildPipeline_cause (c : Settings) (s : State) : (buildPipeline c s).cause = s.cause := rfl
@[simp] theorem buildPipeline_causeInfo (c : Settings) (s : State) : (buildPipeline c s).causeInfo = s.causeInfo := rfl
@[simp] theorem buildPipeline_term (c : Settings) (s : State) : (buildPipeline c s).term = s.term := rfl
@[simp] theorem buildPipeline_rst (c : Settings) (s : State) : (buildPipeline c s).rst = s.rst := rfl
@[simp] theorem buildPipeline_out (c : Settings) (s : State) : (buildPipeline c s).out = s.out := rfl
@[simp] theorem buildPipeline_resp (c : Settings) (s : State) : (buildPipeline c s).resp = s.resp := rfl
@[simp] theorem buildPipeline_port (c : Settings) (s : State) : (buildPipeline c s).port = s.port := rfl
@[simp] theorem buildPipeline_bench (c : Settings) (s : State) : (buildPipeline c s).bench = s.bench := rfl
@[simp] theorem buildPipeline_host (c : Settings) (s : State) : (buildPipeline c s).host = s.host := rfl
@[simp] theorem buildPipeline_params (c : Settings) (s : State) : (buildPipeline c s).params = s.params := rfl

@[simp] theorem setDec_cfg (s : State) (k : Stage) (d : Dec) : (s.setDec k d).cfg = s.cfg := by cases k <;> rfl
@[simp] theorem setDec_der (s : State) (k : Stage) (d : Dec) : (s.setDec k d).der = s.der := by cases k <;> rfl
@[simp] theorem setDec_carry (s : State) (k : Stage) (d : Dec) : (s.setDec k d).carry = s.carry := by cases k <;> rfl
@[simp] theorem setDec_nco (s : State) (k : Stage) (d : Dec) : (s.setDec k d).nco = s.nco := by cases k <;> rfl
@[simp] theorem setDec_acc (s : State) (k : Stage) (d : Dec) : (s.setDec k d).acc = s.acc := by cases k <;> rfl
@[simp] theorem setDec_cnt (s : State) (k : Stage) (d : Dec) : (s.setDec k d).cnt = s.cnt := by cases k <;> rfl
@[simp] theorem setDec_anch (s : State) (k : Stage) (d : Dec) : (s.setDec k d).anch = s.anch := by cases k <;> rfl
@[simp] theorem setDec_dfail (s : State) (k : Stage) (d : Dec) : (s.setDec k d).dfail = s.dfail := by cases k <;> rfl
@[simp] theorem setDec_run (s : State) (k : Stage) (d : Dec) : (s.setDec k d).run = s.run := by cases k <;> rfl
@[simp] theorem setDec_status (s : State) (k : Stage) (d : Dec) : (s.setDec k d).status = s.status := by cases k <;> rfl
@[simp] theorem setDec_cause (s : State) (k : Stage) (d : Dec) : (s.setDec k d).cause = s.cause := by cases k <;> rfl
@[simp] theorem setDec_causeInfo (s : State) (k : Stage) (d : Dec) : (s.setDec k d).causeInfo = s.causeInfo := by cases k <;> rfl
@[simp] theorem setDec_term (s : State) (k : Stage) (d : Dec) : (s.setDec k d).term = s.term := by cases k <;> rfl
@[simp] theorem setDec_rst (s : State) (k : Stage) (d : Dec) : (s.setDec k d).rst = s.rst := by cases k <;> rfl
@[simp] theorem setDec_out (s : State) (k : Stage) (d : Dec) : (s.setDec k d).out = s.out := by cases k <;> rfl
@[simp] theorem setDec_resp (s : State) (k : Stage) (d : Dec) : (s.setDec k d).resp = s.resp := by cases k <;> rfl
@[simp] theorem setDec_port (s : State) (k : Stage) (d : Dec) : (s.setDec k d).port = s.port := by cases k <;> rfl
@[simp] theorem setDec_bench (s : State) (k : Stage) (d : Dec) : (s.setDec k d).bench = s.bench := by cases k <;> rfl
@[simp] theorem setDec_host (s : State) (k : Stage) (d : Dec) : (s.setDec k d).host = s.host := by cases k <;> rfl
@[simp] theorem setDec_params (s : State) (k : Stage) (d : Dec) : (s.setDec k d).params = s.params := by cases k <;> rfl

@[simp] theorem raiseTermination_cfg (s : State) : (s.raiseTermination).cfg = s.cfg := by unfold State.raiseTermination; split <;> rfl
@[simp] theorem raiseTermination_der (s : State) : (s.raiseTermination).der = s.der := by unfold State.raiseTermination; split <;> rfl
@[simp] theorem raiseTermination_carry (s : State) : (s.raiseTermination).carry = s.carry := by unfold State.raiseTermination; split <;> rfl
@[simp] theorem raiseTermination_nco (s : State) : (s.raiseTermination).nco = s.nco := by unfold State.raiseTermination; split <;> rfl
@[simp] theorem raiseTermination_dec1 (s : State) : (s.raiseTermination).dec1 = s.dec1 := by unfold State.raiseTermination; split <;> rfl
@[simp] theorem raiseTermination_dec2 (s : State) : (s.raiseTermination).dec2 = s.dec2 := by unfold State.raiseTermination; split <;> rfl
@[simp] theorem raiseTermination_dec3 (s : State) : (s.raiseTermination).dec3 = s.dec3 := by unfold State.raiseTermination; split <;> rfl
@[simp] theorem raiseTermination_acc (s : State) : (s.raiseTermination).acc = s.acc := by unfold State.raiseTermination; split <;> rfl
@[simp] theorem raiseTermination_cnt (s : State) : (s.raiseTermination).cnt = s.cnt := by unfold State.raiseTermination; split <;> rfl
@[simp] theorem raiseTermination_anch (s : State) : (s.raiseTermination).anch = s.anch := by unfold State.raiseTermination; split <;> rfl
@[simp] theorem raiseTermination_dfail (s : State) : (s.raiseTermination).dfail = s.dfail := by unfold State.raiseTermination; split <;> rfl
@[simp] theorem raiseTermination_run (s : State) : (s.raiseTermination).run = s.run := by unfold State.raiseTermination; split <;> rfl
@[simp] theorem raiseTermination_status (s : State) : (s.raiseTermination).status = s.status := by unfold State.raiseTermination; split <;> rfl
@[simp] theorem raiseTermination_cause (s : State) : (s.raiseTermination).cause = s.cause := by unfold State.raiseTermination; split <;> rfl
@[simp] theorem raiseTermination_causeInfo (s : State) : (s.raiseTermination).causeInfo = s.causeInfo := by unfold State.raiseTermination; split <;> rfl
@[simp] theorem raiseTermination_rst (s : State) : (s.raiseTermination).rst = s.rst := by unfold State.raiseTermination; split <;> rfl
@[simp] theorem raiseTermination_out (s : State) : (s.raiseTermination).out = s.out := by unfold State.raiseTermination; split <;> rfl
@[simp] theorem raiseTermination_port (s : State) : (s.raiseTermination).port = s.port := by unfold State.raiseTermination; split <;> rfl
@[simp] theorem raiseTermination_bench (s : State) : (s.raiseTermination).bench = s.bench := by unfold State.raiseTermination; split <;> rfl
@[simp] theorem raiseTermination_host (s : State) : (s.raiseTermination).host = s.host := by unfold State.raiseTermination; split <;> rfl
@[simp] theorem raiseTermination_params (s : State) : (s.raiseTermination).params = s.params := by unfold State.raiseTermination; split <;> rfl

@[simp] theorem settleTermination_cfg (s : State) : (s.settleTermination).cfg = s.cfg := rfl
@[simp] theorem settleTermination_der (s : State) : (s.settleTermination).der = s.der := rfl
@[simp] theorem settleTermination_carry (s : State) : (s.settleTermination).carry = s.carry := rfl
@[simp] theorem settleTermination_nco (s : State) : (s.settleTermination).nco = s.nco := rfl
@[simp] theorem settleTermination_dec1 (s : State) : (s.settleTermination).dec1 = s.dec1 := rfl
@[simp] theorem settleTermination_dec2 (s : State) : (s.settleTermination).dec2 = s.dec2 := rfl
@[simp] theorem settleTermination_dec3 (s : State) : (s.settleTermination).dec3 = s.dec3 := rfl
@[simp] theorem settleTermination_acc (s : State) : (s.settleTermination).acc = s.acc := rfl
@[simp] theorem settleTermination_cnt (s : State) : (s.settleTermination).cnt = s.cnt := rfl
@[simp] theorem settleTermination_anch (s : State) : (s.settleTermination).anch = s.anch := rfl
@[simp] theorem settleTermination_dfail (s : State) : (s.settleTermination).dfail = s.dfail := rfl
@[simp] theorem settleTermination_run (s : State) : (s.settleTermination).run = s.run := rfl
@[simp] theorem settleTermination_status (s : State) : (s.settleTermination).status = s.status := rfl
@[simp] theorem settleTermination_cause (s : State) : (s.settleTermination).cause = s.cause := rfl
@[simp] theorem settleTermination_causeInfo (s : State) : (s.settleTermination).causeInfo = s.causeInfo := rfl
@[simp] theorem settleTermination_term (s : State) : (s.settleTermination).term = if s.run = .running then .taken else .clear := rfl
@[simp] theorem settleTermination_rst (s : State) : (s.settleTermination).rst = s.rst := rfl
@[simp] theorem settleTermination_out (s : State) : (s.settleTermination).out = s.out := rfl
@[simp] theorem settleTermination_resp (s : State) : (s.settleTermination).resp = s.resp := rfl
@[simp] theorem settleTermination_port (s : State) : (s.settleTermination).port = s.port := rfl
@[simp] theorem settleTermination_bench (s : State) : (s.settleTermination).bench = s.bench := rfl
@[simp] theorem settleTermination_host (s : State) : (s.settleTermination).host = s.host := rfl
@[simp] theorem settleTermination_params (s : State) : (s.settleTermination).params = s.params := rfl

@[simp] theorem raiseReset_cfg (s : State) : (s.raiseReset).cfg = s.cfg := rfl
@[simp] theorem raiseReset_der (s : State) : (s.raiseReset).der = s.der := rfl
@[simp] theorem raiseReset_carry (s : State) : (s.raiseReset).carry = s.carry := rfl
@[simp] theorem raiseReset_nco (s : State) : (s.raiseReset).nco = s.nco := rfl
@[simp] theorem raiseReset_dec1 (s : State) : (s.raiseReset).dec1 = s.dec1 := rfl
@[simp] theorem raiseReset_dec2 (s : State) : (s.raiseReset).dec2 = s.dec2 := rfl
@[simp] theorem raiseReset_dec3 (s : State) : (s.raiseReset).dec3 = s.dec3 := rfl
@[simp] theorem raiseReset_acc (s : State) : (s.raiseReset).acc = s.acc := rfl
@[simp] theorem raiseReset_cnt (s : State) : (s.raiseReset).cnt = s.cnt := rfl
@[simp] theorem raiseReset_anch (s : State) : (s.raiseReset).anch = s.anch := rfl
@[simp] theorem raiseReset_dfail (s : State) : (s.raiseReset).dfail = s.dfail := rfl
@[simp] theorem raiseReset_run (s : State) : (s.raiseReset).run = s.run := rfl
@[simp] theorem raiseReset_status (s : State) : (s.raiseReset).status = s.status := rfl
@[simp] theorem raiseReset_cause (s : State) : (s.raiseReset).cause = s.cause := rfl
@[simp] theorem raiseReset_causeInfo (s : State) : (s.raiseReset).causeInfo = s.causeInfo := rfl
@[simp] theorem raiseReset_term (s : State) : (s.raiseReset).term = s.term := rfl
@[simp] theorem raiseReset_rst (s : State) : (s.raiseReset).rst = true := rfl
@[simp] theorem raiseReset_out (s : State) : (s.raiseReset).out = s.out := rfl
@[simp] theorem raiseReset_resp (s : State) : (s.raiseReset).resp = s.resp := rfl
@[simp] theorem raiseReset_port (s : State) : (s.raiseReset).port = s.port := rfl
@[simp] theorem raiseReset_bench (s : State) : (s.raiseReset).bench = s.bench := rfl
@[simp] theorem raiseReset_host (s : State) : (s.raiseReset).host = s.host := rfl
@[simp] theorem raiseReset_params (s : State) : (s.raiseReset).params = s.params := rfl

/-- A termination signal is pending where it ends a run, now or by the command in progress. -/
theorem raiseTermination_pending {s : State}
    (h : s.run = .running ∨ (s.host.waiting = true ∧ s.run ≠ .done)) :
    s.raiseTermination = { s with term := .pending } := by
  rw [State.raiseTermination, if_pos h]

/-- Elsewhere it is refused. -/
theorem raiseTermination_refused {s : State} (hr : s.run ≠ .running)
    (h : s.host.waiting = false ∨ s.run = .done) : s.raiseTermination = s.refuse .wrongState := by
  rw [State.raiseTermination, if_neg]
  rintro (h' | ⟨hw, hd⟩)
  · exact hr h'
  · rcases h with h | h
    · simp [hw] at h
    · exact hd h

@[simp] theorem issue_cfg (s : State) (b : List Byte) : (s.issue b).cfg = s.cfg := rfl
@[simp] theorem issue_der (s : State) (b : List Byte) : (s.issue b).der = s.der := rfl
@[simp] theorem issue_carry (s : State) (b : List Byte) : (s.issue b).carry = s.carry := rfl
@[simp] theorem issue_nco (s : State) (b : List Byte) : (s.issue b).nco = s.nco := rfl
@[simp] theorem issue_dec1 (s : State) (b : List Byte) : (s.issue b).dec1 = s.dec1 := rfl
@[simp] theorem issue_dec2 (s : State) (b : List Byte) : (s.issue b).dec2 = s.dec2 := rfl
@[simp] theorem issue_dec3 (s : State) (b : List Byte) : (s.issue b).dec3 = s.dec3 := rfl
@[simp] theorem issue_acc (s : State) (b : List Byte) : (s.issue b).acc = s.acc := rfl
@[simp] theorem issue_cnt (s : State) (b : List Byte) : (s.issue b).cnt = s.cnt := rfl
@[simp] theorem issue_anch (s : State) (b : List Byte) : (s.issue b).anch = s.anch := rfl
@[simp] theorem issue_dfail (s : State) (b : List Byte) : (s.issue b).dfail = s.dfail := rfl
@[simp] theorem issue_run (s : State) (b : List Byte) : (s.issue b).run = s.run := rfl
@[simp] theorem issue_status (s : State) (b : List Byte) : (s.issue b).status = s.status := rfl
@[simp] theorem issue_cause (s : State) (b : List Byte) : (s.issue b).cause = s.cause := rfl
@[simp] theorem issue_causeInfo (s : State) (b : List Byte) : (s.issue b).causeInfo = s.causeInfo := rfl
@[simp] theorem issue_term (s : State) (b : List Byte) : (s.issue b).term = s.term := rfl
@[simp] theorem issue_rst (s : State) (b : List Byte) : (s.issue b).rst = s.rst := rfl
@[simp] theorem issue_out (s : State) (b : List Byte) : (s.issue b).out = s.out := rfl
@[simp] theorem issue_resp (s : State) (b : List Byte) : (s.issue b).resp = s.resp := rfl
@[simp] theorem issue_port (s : State) (b : List Byte) : (s.issue b).port = s.port ++ b := rfl
@[simp] theorem issue_bench (s : State) (b : List Byte) : (s.issue b).bench = s.bench := rfl
@[simp] theorem issue_host (s : State) (b : List Byte) : (s.issue b).host = s.host := rfl
@[simp] theorem issue_params (s : State) (b : List Byte) : (s.issue b).params = s.params := rfl

@[simp] theorem undertake_cfg (s : State) (m : Option AnswerCounts) : (s.undertake m).cfg = s.cfg := rfl
@[simp] theorem undertake_der (s : State) (m : Option AnswerCounts) : (s.undertake m).der = s.der := rfl
@[simp] theorem undertake_carry (s : State) (m : Option AnswerCounts) : (s.undertake m).carry = s.carry := rfl
@[simp] theorem undertake_nco (s : State) (m : Option AnswerCounts) : (s.undertake m).nco = s.nco := rfl
@[simp] theorem undertake_dec1 (s : State) (m : Option AnswerCounts) : (s.undertake m).dec1 = s.dec1 := rfl
@[simp] theorem undertake_dec2 (s : State) (m : Option AnswerCounts) : (s.undertake m).dec2 = s.dec2 := rfl
@[simp] theorem undertake_dec3 (s : State) (m : Option AnswerCounts) : (s.undertake m).dec3 = s.dec3 := rfl
@[simp] theorem undertake_acc (s : State) (m : Option AnswerCounts) : (s.undertake m).acc = s.acc := rfl
@[simp] theorem undertake_cnt (s : State) (m : Option AnswerCounts) : (s.undertake m).cnt = s.cnt := rfl
@[simp] theorem undertake_anch (s : State) (m : Option AnswerCounts) : (s.undertake m).anch = s.anch := rfl
@[simp] theorem undertake_dfail (s : State) (m : Option AnswerCounts) : (s.undertake m).dfail = s.dfail := rfl
@[simp] theorem undertake_run (s : State) (m : Option AnswerCounts) : (s.undertake m).run = s.run := rfl
@[simp] theorem undertake_status (s : State) (m : Option AnswerCounts) : (s.undertake m).status = s.status := rfl
@[simp] theorem undertake_cause (s : State) (m : Option AnswerCounts) : (s.undertake m).cause = s.cause := rfl
@[simp] theorem undertake_causeInfo (s : State) (m : Option AnswerCounts) : (s.undertake m).causeInfo = s.causeInfo := rfl
@[simp] theorem undertake_term (s : State) (m : Option AnswerCounts) : (s.undertake m).term = s.term := rfl
@[simp] theorem undertake_rst (s : State) (m : Option AnswerCounts) : (s.undertake m).rst = s.rst := rfl
@[simp] theorem undertake_out (s : State) (m : Option AnswerCounts) : (s.undertake m).out = s.out := rfl
@[simp] theorem undertake_resp (s : State) (m : Option AnswerCounts) : (s.undertake m).resp = s.resp := rfl
@[simp] theorem undertake_port (s : State) (m : Option AnswerCounts) : (s.undertake m).port = s.port := rfl
@[simp] theorem undertake_bench (s : State) (m : Option AnswerCounts) : (s.undertake m).bench = s.bench := rfl
@[simp] theorem undertake_params (s : State) (m : Option AnswerCounts) : (s.undertake m).params = s.params := rfl

@[simp] theorem setWaiting_cfg (s : State) (w : Bool) : (s.setWaiting w).cfg = s.cfg := rfl
@[simp] theorem setWaiting_der (s : State) (w : Bool) : (s.setWaiting w).der = s.der := rfl
@[simp] theorem setWaiting_carry (s : State) (w : Bool) : (s.setWaiting w).carry = s.carry := rfl
@[simp] theorem setWaiting_nco (s : State) (w : Bool) : (s.setWaiting w).nco = s.nco := rfl
@[simp] theorem setWaiting_dec1 (s : State) (w : Bool) : (s.setWaiting w).dec1 = s.dec1 := rfl
@[simp] theorem setWaiting_dec2 (s : State) (w : Bool) : (s.setWaiting w).dec2 = s.dec2 := rfl
@[simp] theorem setWaiting_dec3 (s : State) (w : Bool) : (s.setWaiting w).dec3 = s.dec3 := rfl
@[simp] theorem setWaiting_acc (s : State) (w : Bool) : (s.setWaiting w).acc = s.acc := rfl
@[simp] theorem setWaiting_cnt (s : State) (w : Bool) : (s.setWaiting w).cnt = s.cnt := rfl
@[simp] theorem setWaiting_anch (s : State) (w : Bool) : (s.setWaiting w).anch = s.anch := rfl
@[simp] theorem setWaiting_dfail (s : State) (w : Bool) : (s.setWaiting w).dfail = s.dfail := rfl
@[simp] theorem setWaiting_run (s : State) (w : Bool) : (s.setWaiting w).run = s.run := rfl
@[simp] theorem setWaiting_status (s : State) (w : Bool) : (s.setWaiting w).status = s.status := rfl
@[simp] theorem setWaiting_cause (s : State) (w : Bool) : (s.setWaiting w).cause = s.cause := rfl
@[simp] theorem setWaiting_causeInfo (s : State) (w : Bool) : (s.setWaiting w).causeInfo = s.causeInfo := rfl
@[simp] theorem setWaiting_term (s : State) (w : Bool) : (s.setWaiting w).term = s.term := rfl
@[simp] theorem setWaiting_rst (s : State) (w : Bool) : (s.setWaiting w).rst = s.rst := rfl
@[simp] theorem setWaiting_out (s : State) (w : Bool) : (s.setWaiting w).out = s.out := rfl
@[simp] theorem setWaiting_resp (s : State) (w : Bool) : (s.setWaiting w).resp = s.resp := rfl
@[simp] theorem setWaiting_port (s : State) (w : Bool) : (s.setWaiting w).port = s.port := rfl
@[simp] theorem setWaiting_bench (s : State) (w : Bool) : (s.setWaiting w).bench = s.bench := rfl
@[simp] theorem setWaiting_params (s : State) (w : Bool) : (s.setWaiting w).params = s.params := rfl

@[simp] theorem setWaiting_setWaiting (s : State) (v w : Bool) :
    (s.setWaiting v).setWaiting w = s.setWaiting w := rfl

@[simp] theorem setWaiting_self (s : State) : s.setWaiting s.host.waiting = s := rfl

@[simp] theorem setWaiting_dec (s : State) (w : Bool) (k : Stage) : (s.setWaiting w).dec k = s.dec k := by
  cases k <;> rfl

/-- A host that meets its duty owes nothing. -/
theorem owes_none {h h' : HostSide} (hl : h.limit = none) : h.owes h' = false := by
  simp [HostSide.owes, hl]

/-- A host that is asked nothing owes nothing. -/
theorem owes_self (h : HostSide) : h.owes h = false := by
  unfold HostSide.owes
  split <;> simp [unanswered]

@[simp] theorem setDec_dec_self (s : State) (k : Stage) (d : Dec) : (s.setDec k d).dec k = d := by
  cases k <;> rfl

theorem setDec_dec_other (s : State) {k k' : Stage} (d : Dec) (h : k' ≠ k) :
    (s.setDec k d).dec k' = s.dec k' := by
  cases k <;> cases k' <;> first | rfl | exact absurd rfl h

@[simp] theorem setDec_setDec (s : State) (k : Stage) (d d' : Dec) :
    (s.setDec k d).setDec k d' = s.setDec k d' := by
  cases k <;> rfl

@[simp] theorem setDec_dec (s : State) (k : Stage) : s.setDec k (s.dec k) = s := by
  cases k <;> rfl

@[simp] theorem setPhase_setPhase (s : State) (p q : F64) : (s.setPhase p).setPhase q = s.setPhase q :=
  rfl

@[simp] theorem respond_respond (s : State) (r q : Resp) : (s.respond r).respond q = s.respond q := rfl

@[simp] theorem respond_dec (s : State) (r : Resp) (k : Stage) : (s.respond r).dec k = s.dec k := by
  cases k <;> rfl

end Sys2Proof.Laws
end

