-- ==== Sys2Proof/Laws/Ops.lean ====
section
/-! SUPPORT. What the shared operations can do: a `bind` that answers, the
outcome of a step, a host's answer (which changes only the host's side), a delivery, the anchor. -/

namespace Sys2Proof.Laws

open Sys2Proof.Machine

theorem bind_eq_ok {α β : Type} {r : Res α} {k : α → State → Res β} {b : β} {t : State} :
    r.bind k = .ok b t ↔ ∃ a s, r = .ok a s ∧ k a s = .ok b t := by
  cases r <;> simp [Res.bind]

theorem bind_eq_raised {α β : Type} {r : Res α} {k : α → State → Res β} {t : State} :
    r.bind k = .raised t ↔ r = .raised t ∨ ∃ a s, r = .ok a s ∧ k a s = .raised t := by
  cases r <;> simp [Res.bind]

theorem bind_eq_fault {α β : Type} {r : Res α} {k : α → State → Res β} {f : Fault} :
    r.bind k = .fault f ↔ r = .fault f ∨ ∃ a s, r = .ok a s ∧ k a s = .fault f := by
  cases r <;> simp [Res.bind]

@[simp] theorem bind_ok {α β : Type} (a : α) (s : State) (k : α → State → Res β) :
    (Res.ok a s).bind k = k a s := rfl

@[simp] theorem bind_raised {α β : Type} (s : State) (k : α → State → Res β) :
    (Res.raised (α := α) s).bind k = .raised s := rfl

@[simp] theorem bind_fault {α β : Type} (f : Fault) (k : α → State → Res β) :
    (Res.fault (α := α) f).bind k = .fault f := rfl

theorem bind_assoc {α β γ : Type} (r : Res α) (k : α → State → Res β) (l : β → State → Res γ) :
    (r.bind k).bind l = r.bind fun a s => (k a s).bind l := by
  cases r <;> rfl

theorem outcome_eq_next {α : Type} {r : Res α} {view : α → Resp} {t : State} :
    r.outcome view = .next t ↔ (∃ a s, r = .ok a s ∧ t = s.respond (view a)) ∨ r = .raised t := by
  cases r <;> simp [Res.outcome, eq_comm]

theorem outcome_eq_fault {α : Type} {r : Res α} {view : α → Resp} {f : Fault} :
    r.outcome view = .fault f ↔ r = .fault f := by
  cases r <;> simp [Res.outcome]

theorem outcome_ne_refused {α : Type} (r : Res α) (view : α → Resp) (q : Refusal) :
    r.outcome view ≠ .refused q := by
  cases r <;> simp [Res.outcome]

/-- An operation that always gives a value always gives a next state. -/
theorem handBack_eq_next {α : Type} {r : α × State} {view : α → Resp} {t : State} :
    handBack r view = .next t ↔ t = r.2.respond (view r.1) := by
  simp [handBack, eq_comm]

theorem acceptedIn_self {r : RunState} {s : State} {go : Host.Outcome State Fault Refusal}
    (h : s.run = r) : acceptedIn r s go = go := by
  simp [acceptedIn, h]

theorem acceptedIn_other {r : RunState} {s : State} {go : Host.Outcome State Fault Refusal}
    (h : s.run ≠ r) : acceptedIn r s go = .next (s.refuse .wrongState) := by
  simp [acceptedIn, h]

/-- A host's answer changes the host's side of the state only. -/
theorem askClock_frame (s : State) : (askClock s).2 = { s with host := (askClock s).2.host } := by
  unfold askClock; split <;> rfl

@[simp] theorem askClock_cfg (s : State) : ((askClock s).2).cfg = s.cfg := by
  rw [askClock_frame]
@[simp] theorem askClock_der (s : State) : ((askClock s).2).der = s.der := by
  rw [askClock_frame]
@[simp] theorem askClock_carry (s : State) : ((askClock s).2).carry = s.carry := by
  rw [askClock_frame]
@[simp] theorem askClock_nco (s : State) : ((askClock s).2).nco = s.nco := by
  rw [askClock_frame]
@[simp] theorem askClock_dec1 (s : State) : ((askClock s).2).dec1 = s.dec1 := by
  rw [askClock_frame]
@[simp] theorem askClock_dec2 (s : State) : ((askClock s).2).dec2 = s.dec2 := by
  rw [askClock_frame]
@[simp] theorem askClock_dec3 (s : State) : ((askClock s).2).dec3 = s.dec3 := by
  rw [askClock_frame]
@[simp] theorem askClock_acc (s : State) : ((askClock s).2).acc = s.acc := by
  rw [askClock_frame]
@[simp] theorem askClock_cnt (s : State) : ((askClock s).2).cnt = s.cnt := by
  rw [askClock_frame]
@[simp] theorem askClock_anch (s : State) : ((askClock s).2).anch = s.anch := by
  rw [askClock_frame]
@[simp] theorem askClock_dfail (s : State) : ((askClock s).2).dfail = s.dfail := by
  rw [askClock_frame]
@[simp] theorem askClock_run (s : State) : ((askClock s).2).run = s.run := by
  rw [askClock_frame]
@[simp] theorem askClock_status (s : State) : ((askClock s).2).status = s.status := by
  rw [askClock_frame]
@[simp] theorem askClock_cause (s : State) : ((askClock s).2).cause = s.cause := by
  rw [askClock_frame]
@[simp] theorem askClock_causeInfo (s : State) : ((askClock s).2).causeInfo = s.causeInfo := by
  rw [askClock_frame]
@[simp] theorem askClock_term (s : State) : ((askClock s).2).term = s.term := by
  rw [askClock_frame]
@[simp] theorem askClock_rst (s : State) : ((askClock s).2).rst = s.rst := by
  rw [askClock_frame]
@[simp] theorem askClock_out (s : State) : ((askClock s).2).out = s.out := by
  rw [askClock_frame]
@[simp] theorem askClock_resp (s : State) : ((askClock s).2).resp = s.resp := by
  rw [askClock_frame]
@[simp] theorem askClock_port (s : State) : ((askClock s).2).port = s.port := by
  rw [askClock_frame]
@[simp] theorem askClock_bench (s : State) : ((askClock s).2).bench = s.bench := by
  rw [askClock_frame]
@[simp] theorem askClock_params (s : State) : ((askClock s).2).params = s.params := by
  rw [askClock_frame]

/-- A host's answer changes the host's side of the state only. -/
theorem askEmit_frame (s : State) : (askEmit s).2 = { s with host := (askEmit s).2.host } := by
  unfold askEmit; split <;> rfl

@[simp] theorem askEmit_cfg (s : State) : ((askEmit s).2).cfg = s.cfg := by
  rw [askEmit_frame]
@[simp] theorem askEmit_der (s : State) : ((askEmit s).2).der = s.der := by
  rw [askEmit_frame]
@[simp] theorem askEmit_carry (s : State) : ((askEmit s).2).carry = s.carry := by
  rw [askEmit_frame]
@[simp] theorem askEmit_nco (s : State) : ((askEmit s).2).nco = s.nco := by
  rw [askEmit_frame]
@[simp] theorem askEmit_dec1 (s : State) : ((askEmit s).2).dec1 = s.dec1 := by
  rw [askEmit_frame]
@[simp] theorem askEmit_dec2 (s : State) : ((askEmit s).2).dec2 = s.dec2 := by
  rw [askEmit_frame]
@[simp] theorem askEmit_dec3 (s : State) : ((askEmit s).2).dec3 = s.dec3 := by
  rw [askEmit_frame]
@[simp] theorem askEmit_acc (s : State) : ((askEmit s).2).acc = s.acc := by
  rw [askEmit_frame]
@[simp] theorem askEmit_cnt (s : State) : ((askEmit s).2).cnt = s.cnt := by
  rw [askEmit_frame]
@[simp] theorem askEmit_anch (s : State) : ((askEmit s).2).anch = s.anch := by
  rw [askEmit_frame]
@[simp] theorem askEmit_dfail (s : State) : ((askEmit s).2).dfail = s.dfail := by
  rw [askEmit_frame]
@[simp] theorem askEmit_run (s : State) : ((askEmit s).2).run = s.run := by
  rw [askEmit_frame]
@[simp] theorem askEmit_status (s : State) : ((askEmit s).2).status = s.status := by
  rw [askEmit_frame]
@[simp] theorem askEmit_cause (s : State) : ((askEmit s).2).cause = s.cause := by
  rw [askEmit_frame]
@[simp] theorem askEmit_causeInfo (s : State) : ((askEmit s).2).causeInfo = s.causeInfo := by
  rw [askEmit_frame]
@[simp] theorem askEmit_term (s : State) : ((askEmit s).2).term = s.term := by
  rw [askEmit_frame]
@[simp] theorem askEmit_rst (s : State) : ((askEmit s).2).rst = s.rst := by
  rw [askEmit_frame]
@[simp] theorem askEmit_out (s : State) : ((askEmit s).2).out = s.out := by
  rw [askEmit_frame]
@[simp] theorem askEmit_resp (s : State) : ((askEmit s).2).resp = s.resp := by
  rw [askEmit_frame]
@[simp] theorem askEmit_port (s : State) : ((askEmit s).2).port = s.port := by
  rw [askEmit_frame]
@[simp] theorem askEmit_bench (s : State) : ((askEmit s).2).bench = s.bench := by
  rw [askEmit_frame]
@[simp] theorem askEmit_params (s : State) : ((askEmit s).2).params = s.params := by
  rw [askEmit_frame]

/-- A host's answer changes the host's side of the state only. -/
theorem askSinkOpen_frame (addr : List Byte) (ports : List Nat) (s : State) : (askSinkOpen addr ports s).2 = { s with host := (askSinkOpen addr ports s).2.host } := by
  unfold askSinkOpen; split <;> rfl

@[simp] theorem askSinkOpen_cfg (addr : List Byte) (ports : List Nat) (s : State) : ((askSinkOpen addr ports s).2).cfg = s.cfg := by
  rw [askSinkOpen_frame]
@[simp] theorem askSinkOpen_der (addr : List Byte) (ports : List Nat) (s : State) : ((askSinkOpen addr ports s).2).der = s.der := by
  rw [askSinkOpen_frame]
@[simp] theorem askSinkOpen_carry (addr : List Byte) (ports : List Nat) (s : State) : ((askSinkOpen addr ports s).2).carry = s.carry := by
  rw [askSinkOpen_frame]
@[simp] theorem askSinkOpen_nco (addr : List Byte) (ports : List Nat) (s : State) : ((askSinkOpen addr ports s).2).nco = s.nco := by
  rw [askSinkOpen_frame]
@[simp] theorem askSinkOpen_dec1 (s : State) : ((askSinkOpen addr ports s).2).dec1 = s.dec1 := by
  rw [askSinkOpen_frame]
@[simp] theorem askSinkOpen_dec2 (s : State) : ((askSinkOpen addr ports s).2).dec2 = s.dec2 := by
  rw [askSinkOpen_frame]
@[simp] theorem askSinkOpen_dec3 (s : State) : ((askSinkOpen addr ports s).2).dec3 = s.dec3 := by
  rw [askSinkOpen_frame]
@[simp] theorem askSinkOpen_acc (addr : List Byte) (ports : List Nat) (s : State) : ((askSinkOpen addr ports s).2).acc = s.acc := by
  rw [askSinkOpen_frame]
@[simp] theorem askSinkOpen_cnt (addr : List Byte) (ports : List Nat) (s : State) : ((askSinkOpen addr ports s).2).cnt = s.cnt := by
  rw [askSinkOpen_frame]
@[simp] theorem askSinkOpen_anch (addr : List Byte) (ports : List Nat) (s : State) : ((askSinkOpen addr ports s).2).anch = s.anch := by
  rw [askSinkOpen_frame]
@[simp] theorem askSinkOpen_dfail (addr : List Byte) (ports : List Nat) (s : State) : ((askSinkOpen addr ports s).2).dfail = s.dfail := by
  rw [askSinkOpen_frame]
@[simp] theorem askSinkOpen_run (addr : List Byte) (ports : List Nat) (s : State) : ((askSinkOpen addr ports s).2).run = s.run := by
  rw [askSinkOpen_frame]
@[simp] theorem askSinkOpen_status (addr : List Byte) (ports : List Nat) (s : State) : ((askSinkOpen addr ports s).2).status = s.status := by
  rw [askSinkOpen_frame]
@[simp] theorem askSinkOpen_cause (addr : List Byte) (ports : List Nat) (s : State) : ((askSinkOpen addr ports s).2).cause = s.cause := by
  rw [askSinkOpen_frame]
@[simp] theorem askSinkOpen_causeInfo (addr : List Byte) (ports : List Nat) (s : State) : ((askSinkOpen addr ports s).2).causeInfo = s.causeInfo := by
  rw [askSinkOpen_frame]
@[simp] theorem askSinkOpen_term (addr : List Byte) (ports : List Nat) (s : State) : ((askSinkOpen addr ports s).2).term = s.term := by
  rw [askSinkOpen_frame]
@[simp] theorem askSinkOpen_rst (addr : List Byte) (ports : List Nat) (s : State) : ((askSinkOpen addr ports s).2).rst = s.rst := by
  rw [askSinkOpen_frame]
@[simp] theorem askSinkOpen_out (addr : List Byte) (ports : List Nat) (s : State) : ((askSinkOpen addr ports s).2).out = s.out := by
  rw [askSinkOpen_frame]
@[simp] theorem askSinkOpen_resp (addr : List Byte) (ports : List Nat) (s : State) : ((askSinkOpen addr ports s).2).resp = s.resp := by
  rw [askSinkOpen_frame]
@[simp] theorem askSinkOpen_port (addr : List Byte) (ports : List Nat) (s : State) : ((askSinkOpen addr ports s).2).port = s.port := by
  rw [askSinkOpen_frame]
@[simp] theorem askSinkOpen_bench (addr : List Byte) (ports : List Nat) (s : State) : ((askSinkOpen addr ports s).2).bench = s.bench := by
  rw [askSinkOpen_frame]
@[simp] theorem askSinkOpen_params (addr : List Byte) (ports : List Nat) (s : State) : ((askSinkOpen addr ports s).2).params = s.params := by
  rw [askSinkOpen_frame]

/-- A host's answer changes the host's side of the state only. -/
theorem askParsable_frame (addr : List Byte) (s : State) : (askParsable addr s).2 = { s with host := (askParsable addr s).2.host } := by
  unfold askParsable; split <;> rfl

@[simp] theorem askParsable_cfg (addr : List Byte) (s : State) : ((askParsable addr s).2).cfg = s.cfg := by
  rw [askParsable_frame]
@[simp] theorem askParsable_der (addr : List Byte) (s : State) : ((askParsable addr s).2).der = s.der := by
  rw [askParsable_frame]
@[simp] theorem askParsable_carry (addr : List Byte) (s : State) : ((askParsable addr s).2).carry = s.carry := by
  rw [askParsable_frame]
@[simp] theorem askParsable_nco (addr : List Byte) (s : State) : ((askParsable addr s).2).nco = s.nco := by
  rw [askParsable_frame]
@[simp] theorem askParsable_dec1 (addr : List Byte) (s : State) : ((askParsable addr s).2).dec1 = s.dec1 := by
  rw [askParsable_frame]
@[simp] theorem askParsable_dec2 (addr : List Byte) (s : State) : ((askParsable addr s).2).dec2 = s.dec2 := by
  rw [askParsable_frame]
@[simp] theorem askParsable_dec3 (addr : List Byte) (s : State) : ((askParsable addr s).2).dec3 = s.dec3 := by
  rw [askParsable_frame]
@[simp] theorem askParsable_acc (addr : List Byte) (s : State) : ((askParsable addr s).2).acc = s.acc := by
  rw [askParsable_frame]
@[simp] theorem askParsable_cnt (addr : List Byte) (s : State) : ((askParsable addr s).2).cnt = s.cnt := by
  rw [askParsable_frame]
@[simp] theorem askParsable_anch (addr : List Byte) (s : State) : ((askParsable addr s).2).anch = s.anch := by
  rw [askParsable_frame]
@[simp] theorem askParsable_dfail (addr : List Byte) (s : State) : ((askParsable addr s).2).dfail = s.dfail := by
  rw [askParsable_frame]
@[simp] theorem askParsable_run (addr : List Byte) (s : State) : ((askParsable addr s).2).run = s.run := by
  rw [askParsable_frame]
@[simp] theorem askParsable_status (addr : List Byte) (s : State) : ((askParsable addr s).2).status = s.status := by
  rw [askParsable_frame]
@[simp] theorem askParsable_cause (addr : List Byte) (s : State) : ((askParsable addr s).2).cause = s.cause := by
  rw [askParsable_frame]
@[simp] theorem askParsable_causeInfo (addr : List Byte) (s : State) : ((askParsable addr s).2).causeInfo = s.causeInfo := by
  rw [askParsable_frame]
@[simp] theorem askParsable_term (addr : List Byte) (s : State) : ((askParsable addr s).2).term = s.term := by
  rw [askParsable_frame]
@[simp] theorem askParsable_rst (addr : List Byte) (s : State) : ((askParsable addr s).2).rst = s.rst := by
  rw [askParsable_frame]
@[simp] theorem askParsable_out (addr : List Byte) (s : State) : ((askParsable addr s).2).out = s.out := by
  rw [askParsable_frame]
@[simp] theorem askParsable_resp (addr : List Byte) (s : State) : ((askParsable addr s).2).resp = s.resp := by
  rw [askParsable_frame]
@[simp] theorem askParsable_port (addr : List Byte) (s : State) : ((askParsable addr s).2).port = s.port := by
  rw [askParsable_frame]
@[simp] theorem askParsable_bench (addr : List Byte) (s : State) : ((askParsable addr s).2).bench = s.bench := by
  rw [askParsable_frame]
@[simp] theorem askParsable_params (addr : List Byte) (s : State) : ((askParsable addr s).2).params = s.params := by
  rw [askParsable_frame]

@[simp] theorem tsAnchor_cfg (s : State) : (tsAnchor s).cfg = s.cfg := by
  unfold tsAnchor; split <;> simp
@[simp] theorem tsAnchor_der (s : State) : (tsAnchor s).der = s.der := by
  unfold tsAnchor; split <;> simp
@[simp] theorem tsAnchor_carry (s : State) : (tsAnchor s).carry = s.carry := by
  unfold tsAnchor; split <;> simp
@[simp] theorem tsAnchor_nco (s : State) : (tsAnchor s).nco = s.nco := by
  unfold tsAnchor; split <;> simp
@[simp] theorem tsAnchor_dec1 (s : State) : (tsAnchor s).dec1 = s.dec1 := by
  unfold tsAnchor; split <;> simp
@[simp] theorem tsAnchor_dec2 (s : State) : (tsAnchor s).dec2 = s.dec2 := by
  unfold tsAnchor; split <;> simp
@[simp] theorem tsAnchor_dec3 (s : State) : (tsAnchor s).dec3 = s.dec3 := by
  unfold tsAnchor; split <;> simp
@[simp] theorem tsAnchor_acc (s : State) : (tsAnchor s).acc = s.acc := by
  unfold tsAnchor; split <;> simp
@[simp] theorem tsAnchor_cnt (s : State) : (tsAnchor s).cnt = s.cnt := by
  unfold tsAnchor; split <;> simp
@[simp] theorem tsAnchor_dfail (s : State) : (tsAnchor s).dfail = s.dfail := by
  unfold tsAnchor; split <;> simp
@[simp] theorem tsAnchor_run (s : State) : (tsAnchor s).run = s.run := by
  unfold tsAnchor; split <;> simp
@[simp] theorem tsAnchor_status (s : State) : (tsAnchor s).status = s.status := by
  unfold tsAnchor; split <;> simp
@[simp] theorem tsAnchor_cause (s : State) : (tsAnchor s).cause = s.cause := by
  unfold tsAnchor; split <;> simp
@[simp] theorem tsAnchor_causeInfo (s : State) : (tsAnchor s).causeInfo = s.causeInfo := by
  unfold tsAnchor; split <;> simp
@[simp] theorem tsAnchor_term (s : State) : (tsAnchor s).term = s.term := by
  unfold tsAnchor; split <;> simp
@[simp] theorem tsAnchor_rst (s : State) : (tsAnchor s).rst = s.rst := by
  unfold tsAnchor; split <;> simp
@[simp] theorem tsAnchor_out (s : State) : (tsAnchor s).out = s.out := by
  unfold tsAnchor; split <;> simp
@[simp] theorem tsAnchor_resp (s : State) : (tsAnchor s).resp = s.resp := by
  unfold tsAnchor; split <;> simp
@[simp] theorem tsAnchor_port (s : State) : (tsAnchor s).port = s.port := by
  unfold tsAnchor; split <;> simp
@[simp] theorem tsAnchor_bench (s : State) : (tsAnchor s).bench = s.bench := by
  unfold tsAnchor; split <;> simp
@[simp] theorem tsAnchor_params (s : State) : (tsAnchor s).params = s.params := by
  unfold tsAnchor; split <;> simp

/-- TS.ANCHOR writes the anchor and the host's side alone (44 R210). -/
theorem tsAnchor_frame (s : State) :
    tsAnchor s = { s with anch := (tsAnchor s).anch, host := (tsAnchor s).host } := by
  unfold tsAnchor askClock
  split
  · rfl
  · split <;> rfl

/-- What TS.ANCHOR reads is the anchor and the host's side alone. -/
theorem tsAnchor_congr {s s' : State} (ha : s.anch = s'.anch) (hh : s.host = s'.host) :
    (tsAnchor s).anch = (tsAnchor s').anch ∧ (tsAnchor s).host = (tsAnchor s').host := by
  unfold tsAnchor askClock
  rw [ha, hh]
  split
  · exact ⟨ha, hh⟩
  · split <;> exact ⟨rfl, rfl⟩

@[simp] theorem deliver_cfg (b : List Byte) (d : Nat) (s : State) : (deliver b d s).cfg = s.cfg := by
  simp [deliver]
@[simp] theorem deliver_der (b : List Byte) (d : Nat) (s : State) : (deliver b d s).der = s.der := by
  simp [deliver]
@[simp] theorem deliver_carry (b : List Byte) (d : Nat) (s : State) : (deliver b d s).carry = s.carry := by
  simp [deliver]
@[simp] theorem deliver_nco (b : List Byte) (d : Nat) (s : State) : (deliver b d s).nco = s.nco := by
  simp [deliver]
@[simp] theorem deliver_dec1 (b : List Byte) (d : Nat) (s : State) : (deliver b d s).dec1 = s.dec1 := by
  simp [deliver]
@[simp] theorem deliver_dec2 (b : List Byte) (d : Nat) (s : State) : (deliver b d s).dec2 = s.dec2 := by
  simp [deliver]
@[simp] theorem deliver_dec3 (b : List Byte) (d : Nat) (s : State) : (deliver b d s).dec3 = s.dec3 := by
  simp [deliver]
@[simp] theorem deliver_acc (b : List Byte) (d : Nat) (s : State) : (deliver b d s).acc = s.acc := by
  simp [deliver]
@[simp] theorem deliver_cnt (b : List Byte) (d : Nat) (s : State) : (deliver b d s).cnt = s.cnt := by
  simp [deliver]
@[simp] theorem deliver_anch (b : List Byte) (d : Nat) (s : State) : (deliver b d s).anch = s.anch := by
  simp [deliver]
@[simp] theorem deliver_run (b : List Byte) (d : Nat) (s : State) : (deliver b d s).run = s.run := by
  simp [deliver]
@[simp] theorem deliver_status (b : List Byte) (d : Nat) (s : State) : (deliver b d s).status = s.status := by
  simp [deliver]
@[simp] theorem deliver_cause (b : List Byte) (d : Nat) (s : State) : (deliver b d s).cause = s.cause := by
  simp [deliver]
@[simp] theorem deliver_causeInfo (b : List Byte) (d : Nat) (s : State) : (deliver b d s).causeInfo = s.causeInfo := by
  simp [deliver]
@[simp] theorem deliver_term (b : List Byte) (d : Nat) (s : State) : (deliver b d s).term = s.term := by
  simp [deliver]
@[simp] theorem deliver_rst (b : List Byte) (d : Nat) (s : State) : (deliver b d s).rst = s.rst := by
  simp [deliver]
@[simp] theorem deliver_out (b : List Byte) (d : Nat) (s : State) : (deliver b d s).out = s.out ++ [⟨d, b, (askEmit s).1⟩] := by
  simp [deliver]
@[simp] theorem deliver_resp (b : List Byte) (d : Nat) (s : State) : (deliver b d s).resp = s.resp := by
  simp [deliver]
@[simp] theorem deliver_port (b : List Byte) (d : Nat) (s : State) : (deliver b d s).port = s.port := by
  simp [deliver]
@[simp] theorem deliver_bench (b : List Byte) (d : Nat) (s : State) : (deliver b d s).bench = s.bench := by
  simp [deliver]
@[simp] theorem deliver_params (b : List Byte) (d : Nat) (s : State) : (deliver b d s).params = s.params := by
  simp [deliver]

theorem askClock_counts (s : State) : (askClock s).2.host.nClock = s.host.nClock + 1 := by
  unfold askClock; split <;> rfl

theorem askEmit_counts (s : State) : (askEmit s).2.host.nEmit = s.host.nEmit + 1 := by
  unfold askEmit; split <;> rfl

/-- Deliveries change the event history, the failure counters and the host's side only. -/
theorem deliver_frame (b : List Byte) (d : Nat) (s : State) :
    deliver b d s =
      { s with host := (deliver b d s).host, dfail := (deliver b d s).dfail,
               out := (deliver b d s).out } := by
  simp [deliver]

theorem deliverFrom_frame (b : List Byte) (n d : Nat) (s : State) :
    deliverFrom b n d s =
      { s with host := (deliverFrom b n d s).host, dfail := (deliverFrom b n d s).dfail,
               out := (deliverFrom b n d s).out } := by
  induction n generalizing d s with
  | zero => rfl
  | succ n ih =>
    rw [deliverFrom, ih]
    simp

/-- One failure is counted at its destination and nowhere else. -/
theorem countFailure_getD (l : List Nat) (d e : Nat) :
    (countFailure l d).getD e 0 = l.getD e 0 + if e = d then 1 else 0 := by
  induction d generalizing l e with
  | zero => cases l <;> cases e <;> simp [countFailure]
  | succ d ih =>
    cases l with
    | nil => cases e with
      | zero => simp [countFailure]
      | succ e => simpa [countFailure] using ih [] e
    | cons c cs => cases e with
      | zero => simp [countFailure]
      | succ e => simpa [countFailure] using ih cs e

/-- Counting at a destination that has a counter keeps the number of counters. -/
theorem countFailure_length {l : List Nat} {d : Nat} (h : d < l.length) :
    (countFailure l d).length = l.length := by
  induction d generalizing l with
  | zero => cases l <;> simp_all [countFailure]
  | succ d ih => cases l <;> simp_all [countFailure]

@[simp] theorem deliver_dfail (b : List Byte) (d : Nat) (s : State) :
    (deliver b d s).dfail = if (askEmit s).1 then s.dfail else countFailure s.dfail d := by
  simp [deliver]

/-- What a delivery does to a failure counter. -/
theorem deliver_dfail_getD (b : List Byte) (d e : Nat) (s : State) :
    (deliver b d s).dfail.getD e 0 =
      s.dfail.getD e 0 + if e = d ∧ (askEmit s).1 = false then 1 else 0 := by
  rw [deliver_dfail]
  split
  · simp_all
  · rw [countFailure_getD]
    simp_all

/-- Deliveries to destinations that have counters keep the number of counters. -/
theorem deliverFrom_dfail_length {b : List Byte} {n d : Nat} {s : State} (h : d + n ≤ s.dfail.length) :
    (deliverFrom b n d s).dfail.length = s.dfail.length := by
  induction n generalizing d s with
  | zero => rfl
  | succ n ih =>
    have h1 : (deliver b d s).dfail.length = s.dfail.length := by
      rw [deliver_dfail]
      split
      · rfl
      · exact countFailure_length (by omega)
    rw [deliverFrom, ih (by omega), h1]

/-- The events of one send name the destinations in order, all with the same bytes. -/
theorem deliverFrom_out (b : List Byte) (n d : Nat) (s : State) :
    ∃ oks : List Bool, oks.length = n ∧
      (deliverFrom b n d s).out =
        s.out ++ (oks.zipIdx d).map fun p => ⟨p.2, b, p.1⟩ := by
  induction n generalizing d s with
  | zero => exact ⟨[], rfl, by simp [deliverFrom]⟩
  | succ n ih =>
    obtain ⟨oks, hlen, hout⟩ := ih (d + 1) (deliver b d s)
    exact ⟨(askEmit s).1 :: oks, by simp [hlen], by simp [deliverFrom, hout]⟩

end Sys2Proof.Laws
end

