-- ==== Sys2Proof/Laws/PerInstr.lean ====
section
/-! SUPPORT. The family OpCode: what every instruction's encoding looks like as bytes, the operation code
first and the operand part of the length its format gives (spec/30_encoding.md R110, R111; the
micro-operations' operand forms are the model's, log 13). One lemma for each constructor. -/

namespace Sys2Proof.Laws.OpCode

/-- The length of the operand part: formats N, W, R, B of 30_encoding R110, and the bench's forms. -/
def operandLength : Instr → Nat
  | .cfgwr _ value => 3 + value.length
  | .push data => 4 + data.length
  | .statrd _ _ => 3
  | .lpfDesign _ _ => 16
  | .decStep _ _ => 9
  | .decRun _ run => 5 + 8 * run.length
  | .ncoStep _ => 8
  | .ncoRun run => 4 + 8 * run.length
  | .carrySplit chunk => 4 + chunk.length
  | .convS16 bytes => 4 + bytes.length
  | .convF32 bytes => 4 + bytes.length
  | .tsHeader _ => 8
  | .frmAccum run => 4 + 8 * run.length
  | .frmSend bytes => 4 + bytes.length
  | .reset => 0
  | .start => 0
  | .eos => 0
  | .cancel => 0
  | .reanchor => 0
  | .tsAnchor => 0
  | .frmFlush => 0

/-- The operation code leads, and the operands take up the bytes their format gives. -/
def Statement (i : Instr) : Prop :=
  (encode i).head? = some (opCode i) ∧ (encode i).length = 1 + operandLength i

theorem bytesLE_length (k n : Nat) : (bytesLE k n).length = k := by
  induction k generalizing n with
  | zero => rfl
  | succ k ih => simp [bytesLE, ih]

theorem sampleBytesLE_length (s : Sample) : (sampleBytesLE s).length = 8 := by
  simp [sampleBytesLE, bytesLE_length]

theorem blockBytes_length (bs : List Byte) : (blockBytes bs).length = 4 + bs.length := by
  simp [blockBytes, bytesLE_length]

theorem runBytes_length (run : List Sample) : (runBytes run).length = 4 + 8 * run.length := by
  have h : (run.flatMap sampleBytesLE).length = 8 * run.length := by
    induction run with
    | nil => rfl
    | cons x xs ih => simp [sampleBytesLE_length, ih]; omega
  simp only [runBytes, List.length_append, bytesLE_length, h]

/-- The statement from the length of the operand part alone. -/
theorem statement_of {i : Instr} (h : (operandBytes i).length = operandLength i) : Statement i :=
  ⟨rfl, by rw [encode, List.length_cons, h, Nat.add_comm]⟩

theorem reset : Statement .reset := statement_of rfl

theorem cfgwr (reg : CfgReg) (value : List Byte) : Statement (.cfgwr reg value) :=
  statement_of (by simp [operandBytes, operandLength, bytesLE_length]; omega)

theorem start : Statement .start := statement_of rfl

theorem push (data : List Byte) : Statement (.push data) := statement_of (blockBytes_length data)

theorem eos : Statement .eos := statement_of rfl

theorem cancel : Statement .cancel := statement_of rfl

theorem reanchor : Statement .reanchor := statement_of rfl

theorem statrd (reg : StatReg) (idx : BitVec 16) : Statement (.statrd reg idx) :=
  statement_of (by simp [operandBytes, operandLength, bytesLE_length])

theorem lpfDesign (taps : Int) (cutoff : F64) : Statement (.lpfDesign taps cutoff) :=
  statement_of (by simp [operandBytes, operandLength, bytesLE_length])

theorem decStep (k : Stage) (s : Sample) : Statement (.decStep k s) :=
  statement_of (by simp [operandBytes, operandLength, sampleBytesLE_length])

theorem decRun (k : Stage) (run : List Sample) : Statement (.decRun k run) :=
  statement_of (by simp [operandBytes, operandLength, runBytes_length]; omega)

theorem ncoStep (s : Sample) : Statement (.ncoStep s) := statement_of (sampleBytesLE_length s)

theorem ncoRun (run : List Sample) : Statement (.ncoRun run) := statement_of (runBytes_length run)

theorem carrySplit (chunk : List Byte) : Statement (.carrySplit chunk) :=
  statement_of (blockBytes_length chunk)

theorem convS16 (bytes : List Byte) : Statement (.convS16 bytes) :=
  statement_of (blockBytes_length bytes)

theorem convF32 (bytes : List Byte) : Statement (.convF32 bytes) :=
  statement_of (blockBytes_length bytes)

theorem tsAnchor : Statement .tsAnchor := statement_of rfl

theorem tsHeader (i : Nat) : Statement (.tsHeader i) := statement_of (bytesLE_length 8 i)

theorem frmAccum (run : List Sample) : Statement (.frmAccum run) := statement_of (runBytes_length run)

theorem frmFlush : Statement .frmFlush := statement_of rfl

theorem frmSend (bytes : List Byte) : Statement (.frmSend bytes) :=
  statement_of (blockBytes_length bytes)

end Sys2Proof.Laws.OpCode
end

