-- ==== Sys2Proof/Laws/Pipeline.lean ====
section
/-! SUPPORT. What each shared pipeline operation can do when it answers, and what it leaves alone. -/

namespace Sys2Proof.Laws

open Sys2Proof.Machine

theorem three_le_coerceTaps (taps : Int) : 3 ≤ coerceTaps taps := by
  unfold coerceTaps
  split
  · exact le_refl 3
  · split <;> omega

theorem numDesign_length (p : Params) (T : Nat) (c : F64) : (numDesign p T c).length = T := by
  unfold numDesign
  split
  · simp only [designDefault, normalise]
    split <;> simp
  · simp [designFree]
  · split
    · next r h => simpa using List.find?_some h
    · simp [designFree]

theorem window_length (hist : List Sample) (cur : Nat) : (window hist cur).length = hist.length := by
  simp [window]

@[simp] theorem decWrite_coef (F : Nat) (x : Sample) (d : Dec) : (decWrite F x d).coef = d.coef := rfl

@[simp] theorem decWrite_hist (F : Nat) (x : Sample) (d : Dec) :
    (decWrite F x d).hist = d.hist.set d.cur x := rfl

@[simp] theorem decWrite_cur (F : Nat) (x : Sample) (d : Dec) :
    (decWrite F x d).cur = (d.cur + 1) % d.hist.length := rfl

@[simp] theorem decWrite_ph (F : Nat) (x : Sample) (d : Dec) :
    (decWrite F x d).ph = (d.ph + 1) % F := rfl

theorem factor_pos (k : Stage) : 0 < Config.factor k := by cases k <;> decide

/-- DEC.STEP writes its stage alone. -/
@[simp] theorem decStep_state (k : Stage) (x : Sample) (s : State) :
    (decStep k x s).2 = s.setDec k (decWrite (Config.factor k) x (s.dec k)) := rfl

@[simp] theorem decStep_result (k : Stage) (x : Sample) (s : State) :
    (decStep k x s).1 = decOutput s.params (decWrite (Config.factor k) x (s.dec k)) := rfl

/-- A stage answers exactly where its phase has wrapped (41 R152). -/
theorem decOutput_isSome (p : Params) (d : Dec) : (decOutput p d).isSome = decide (d.ph = 0) := by
  unfold decOutput
  split <;> simp_all

/-- A written stage stays as built. -/
theorem decWrite_built {p : Params} {k : Stage} {x : Sample} {d : Dec} (h : StageBuilt p k d) :
    StageBuilt p k (decWrite (Config.factor k) x d) := by
  obtain ⟨h1, h2, _, _⟩ := h
  have h3 := three_le_coerceTaps (tapsOf p k)
  refine ⟨by simpa using h1, by simpa using h2, ?_, Nat.mod_lt _ (factor_pos k)⟩
  rw [decWrite_cur, h2]
  exact Nat.mod_lt _ (by omega)

/-- A stage as RESET leaves it is built (10_state R48, log 18). -/
theorem reset_built (p : Params) (k : Stage) : StageBuilt p k (Dec.reset p k) := by
  have h3 := three_le_coerceTaps (tapsOf p k)
  exact ⟨by simp [Dec.reset], by simp [Dec.reset], by simp only [Dec.reset]; omega, factor_pos k⟩

/-- What a run of samples leaves in a stage: each written in turn (41 R155). -/
def writtenRun (k : Stage) (run : List Sample) (d : Dec) : Dec :=
  run.foldl (fun d x => decWrite (Config.factor k) x d) d

@[simp] theorem writtenRun_nil (k : Stage) (d : Dec) : writtenRun k [] d = d := rfl

@[simp] theorem writtenRun_cons (k : Stage) (x : Sample) (xs : List Sample) (d : Dec) :
    writtenRun k (x :: xs) d = writtenRun k xs (decWrite (Config.factor k) x d) := rfl

@[simp] theorem writtenRun_coef (k : Stage) (run : List Sample) (d : Dec) :
    (writtenRun k run d).coef = d.coef := by
  induction run generalizing d with
  | nil => rfl
  | cons x xs ih => simp [ih]

theorem writtenRun_built {p : Params} {k : Stage} {run : List Sample} {d : Dec} (h : StageBuilt p k d) :
    StageBuilt p k (writtenRun k run d) := by
  induction run generalizing d with
  | nil => exact h
  | cons x xs ih => exact ih (decWrite_built h)

@[simp] theorem decRun_nil (k : Stage) (s : State) : decRun k [] s = ([], s) := rfl

theorem decRun_cons (k : Stage) (x : Sample) (xs : List Sample) (s : State) :
    decRun k (x :: xs) s =
      ((decStep k x s).1.toList ++ (decRun k xs (decStep k x s).2).1, (decRun k xs (decStep k x s).2).2) :=
  rfl

/-- DEC.RUN writes its stage alone, sample by sample. -/
@[simp] theorem decRun_state (k : Stage) (run : List Sample) (s : State) :
    (decRun k run s).2 = s.setDec k (writtenRun k run (s.dec k)) := by
  induction run generalizing s with
  | nil => simp
  | cons x xs ih => simp [decRun_cons, ih]

/-- With `NCO.BYPASS` NCO.STEP returns the same words and touches nothing (42 R172). -/
theorem ncoStep_bypassed {s : State} (h : s.nco.bypass = true) (x : Sample) : ncoStep x s = (x, s) := by
  simp [ncoStep, h]

/-- Without it NCO.STEP returns the rotated sample and advances the phase (42 R170). -/
theorem ncoStep_rotates {s : State} (h : s.nco.bypass = false) (x : Sample) :
    ncoStep x s = (numRotate s.params x s.nco.phase,
      s.setPhase (numPhaseAdvance s.params s.nco.phase s.nco.step)) := by
  simp [ncoStep, h]

/-- The oscillator's step writes the phase alone. -/
theorem ncoStep_frame (x : Sample) (s : State) :
    (ncoStep x s).2 = s.setPhase (ncoStep x s).2.nco.phase := by
  unfold ncoStep
  split <;> rfl

@[simp] theorem ncoEach_nil (s : State) : ncoEach [] s = ([], s) := rfl

theorem ncoEach_cons (x : Sample) (xs : List Sample) (s : State) :
    ncoEach (x :: xs) s =
      ((ncoStep x s).1 :: (ncoEach xs (ncoStep x s).2).1, (ncoEach xs (ncoStep x s).2).2) := rfl

/-- The oscillator's run writes the phase alone and keeps the number of samples. -/
theorem ncoEach_frame (run : List Sample) (s : State) :
    (ncoEach run s).2 = s.setPhase (ncoEach run s).2.nco.phase ∧ (ncoEach run s).1.length = run.length := by
  induction run generalizing s with
  | nil => exact ⟨rfl, rfl⟩
  | cons x xs ih =>
    obtain ⟨ht, hl⟩ := ih (ncoStep x s).2
    rw [ncoEach_cons]
    refine ⟨?_, by simp [hl]⟩
    show (ncoEach xs (ncoStep x s).2).2 = _
    rw [ht, ncoStep_frame x s]
    simp

/-- With `NCO.BYPASS` NCO.RUN returns the same run and touches nothing (42 R172, R175). -/
theorem ncoRun_bypassed {s : State} (h : s.nco.bypass = true) (run : List Sample) :
    ncoRun run s = (run, s) := by
  simp [ncoRun, h]

/-- Without it NCO.RUN is NCO.STEP once per sample (42 R175). -/
theorem ncoRun_each {s : State} (h : s.nco.bypass = false) (run : List Sample) :
    ncoRun run s = ncoEach run s := by
  simp [ncoRun, h]

theorem ncoRun_frame (run : List Sample) (s : State) :
    (ncoRun run s).2 = s.setPhase (ncoRun run s).2.nco.phase ∧ (ncoRun run s).1.length = run.length := by
  unfold ncoRun
  split
  · exact ⟨rfl, rfl⟩
  · exact ncoEach_frame run s

/-- CARRY.SPLIT writes the carry alone: whole samples out, the rest kept (43 R190). -/
theorem carrySplit_eq (chunk : List Byte) (s : State) :
    carrySplit chunk s =
      ((s.carry ++ chunk).take ((s.carry ++ chunk).length / s.der.bps * s.der.bps),
        { s with carry := (s.carry ++ chunk).drop ((s.carry ++ chunk).length / s.der.bps * s.der.bps) }) :=
  rfl

theorem aligned_ok {w : Nat} {bytes : List Byte} {f : List Byte → List Sample} {s t : State}
    {ys : List Sample} (h : aligned w bytes f s = .ok ys t) :
    bytes.length % w = 0 ∧ ys = f bytes ∧ t = s := by
  unfold aligned at h
  split at h
  · cases h; exact ⟨‹_›, rfl, rfl⟩
  · cases h

theorem aligned_raised {w : Nat} {bytes : List Byte} {f : List Byte → List Sample} {s t : State}
    (h : aligned w bytes f s = .raised t) :
    bytes.length % w ≠ 0 ∧ t = takeError .alignment bytes.length s := by
  unfold aligned at h
  split at h
  · cases h
  · cases h; exact ⟨‹_›, rfl⟩

theorem aligned_ne_fault (w : Nat) (bytes : List Byte) (f : List Byte → List Sample) (s : State)
    (q : Fault) : aligned w bytes f s ≠ .fault q := by
  unfold aligned
  split <;> simp

/-- The converter writes no state when it answers. -/
theorem convert_ok {bytes : List Byte} {s t : State} {ys : List Sample}
    (h : convert bytes s = .ok ys t) :
    t = s ∧ ys = if s.encValue = 0 then samplesS16 bytes else samplesF32 s.params.endian bytes := by
  unfold convert at h
  split at h
  · next h0 =>
    obtain ⟨-, hy, rfl⟩ := aligned_ok h
    exact ⟨rfl, by rw [if_pos h0]; exact hy⟩
  · next h0 =>
    obtain ⟨-, hy, rfl⟩ := aligned_ok h
    exact ⟨rfl, by rw [if_neg h0]; exact hy⟩

/-- The converter raises only the alignment error. -/
theorem convert_raised {bytes : List Byte} {s t : State} (h : convert bytes s = .raised t) :
    t = takeError .alignment bytes.length s := by
  unfold convert at h
  split at h <;> exact (aligned_raised h).2

theorem convert_ne_fault (bytes : List Byte) (s : State) (q : Fault) : convert bytes s ≠ .fault q := by
  unfold convert
  split <;> exact aligned_ne_fault _ _ _ _ _

/-- TS.HEADER leaves the state TS.ANCHOR leaves. -/
@[simp] theorem tsHeader_state (i : Nat) (s : State) : (tsHeader i s).2 = tsAnchor s := rfl

/-- The header's words (44 R212, R215). -/
theorem tsHeader_result (i : Nat) (s : State) :
    (tsHeader i s).1 = headerWords ((tsAnchor s).anch.sec * Config.nsPerSec + (tsAnchor s).anch.nsec +
      tsOffset i (tsAnchor s)) := rfl

/-- The offset depends on the derived constants and the parameters alone. -/
@[simp] theorem tsOffset_anchor (i : Nat) (s : State) : tsOffset i (tsAnchor s) = tsOffset i s := by
  simp [tsOffset]

/-- The offset on the integer path (44 R213). -/
theorem tsOffset_integer {s : State} (h : s.der.rateInt = true) (h0 : s.der.rOut ≠ 0) (i : Nat) :
    tsOffset i s = i * Config.nsPerSec / s.der.rOut := by
  simp [tsOffset, h, h0]

/-- The offset on the floating path (44 R214). -/
theorem tsOffset_floating {s : State} (h : s.der.rateInt = false) (i : Nat) :
    tsOffset i s = numTsOffset s.params i s.der.fsOut := by
  simp [tsOffset, h]

/-- After TS.ANCHOR a valid anchor is held. -/
theorem tsAnchor_held {s : State} (h : AnchorHeld s) : (tsAnchor s).anch.valid = true ∧
    AnchorHeld (tsAnchor s) := by
  unfold tsAnchor
  split
  · next hv => exact ⟨hv, h⟩
  · exact ⟨rfl, fun _ => (askClock s).1.nsec.isLt⟩

/-- A flush takes `n` samples off the queue, sends one frame and counts its payload. -/
theorem flushFrame_eq (n : Nat) (s : State) :
    flushFrame n s =
      { deliverFrom (serialise s.params.endian
            ((tsHeader s.cnt { s with acc := s.acc.drop n }).1 :: s.acc.take n)) s.der.ndest 0
          (tsAnchor { s with acc := s.acc.drop n }) with cnt := s.cnt + n } := by
  simp [flushFrame, frmSend]

@[simp] theorem flushFrame_acc (n : Nat) (s : State) : (flushFrame n s).acc = s.acc.drop n := by
  rw [flushFrame_eq, deliverFrom_frame]
  simp

@[simp] theorem flushFrame_cnt (n : Nat) (s : State) : (flushFrame n s).cnt = s.cnt + n := rfl

/-- What a flush leaves alone. -/
theorem flushFrame_frame (n : Nat) (s : State) :
    flushFrame n s = { s with
      acc := (flushFrame n s).acc, cnt := (flushFrame n s).cnt, anch := (flushFrame n s).anch,
      dfail := (flushFrame n s).dfail, out := (flushFrame n s).out, host := (flushFrame n s).host } := by
  rw [flushFrame_eq, deliverFrom_frame]
  simp

@[simp] theorem flushFrame_pktValue (n : Nat) (s : State) : (flushFrame n s).pktValue = s.pktValue := by
  rw [flushFrame_frame]
  rfl

/-- FRM.FLUSH answers exactly within its precondition (45 R231). -/
theorem frmFlush_eq_ok {s t : State} :
    frmFlush s = .ok () t ↔ s.pktValue - 1 ≤ s.acc.length ∧ t = flushFrame (s.pktValue - 1) s := by
  unfold frmFlush
  split
  · simp; omega
  · simp [eq_comm]; omega

theorem frmFlush_ne_raised (s t : State) : frmFlush s ≠ .raised t := by
  unfold frmFlush
  split <;> simp

/-- One turn of the flush loop (45 R233). -/
theorem flushLoop_turn {n : Nat} {s : State} (h : s.pktValue - 1 ≤ s.acc.length) :
    flushLoop (n + 1) s = flushLoop n (flushFrame (s.pktValue - 1) s) := by
  rw [flushLoop, if_neg (by omega), frmFlush_eq_ok.mpr ⟨h, rfl⟩, bind_ok]

/-- The flush loop goes no further where less than a payload is queued (45 R233). -/
theorem flushLoop_done {n : Nat} {s : State} (h : s.acc.length < s.pktValue - 1) :
    flushLoop n s = .ok () s := by
  cases n <;> rw [flushLoop, if_pos h]

/-- Where `CFG_PKT` is 2 or more the flush loop ends within as many turns as the queue has samples. -/
theorem flushLoop_ends {n : Nat} {s : State} (hp : 2 ≤ s.pktValue) (hn : s.acc.length ≤ n) :
    ∃ t, flushLoop n s = .ok () t := by
  induction n generalizing s with
  | zero => exact ⟨s, flushLoop_done (by omega)⟩
  | succ n ih =>
    by_cases h : s.acc.length < s.pktValue - 1
    · exact ⟨s, flushLoop_done h⟩
    · rw [flushLoop_turn (by omega)]
      exact ih (by simpa using hp) (by simp; omega)

/-- What the flush loop leaves alone. -/
theorem flushLoop_frame {n : Nat} {s t : State} (h : flushLoop n s = .ok () t) :
    t = { s with acc := t.acc, cnt := t.cnt, anch := t.anch, dfail := t.dfail, out := t.out,
                 host := t.host } := by
  induction n generalizing s with
  | zero =>
    rw [flushLoop] at h
    split at h <;> cases h
    rfl
  | succ n ih =>
    by_cases hq : s.acc.length < s.pktValue - 1
    · rw [flushLoop_done hq] at h
      cases h
      rfl
    · rw [flushLoop_turn (by omega)] at h
      rw [ih h, flushFrame_frame]

/-- The flush loop ends with less than a payload in the queue (45 R233). -/
theorem flushLoop_drains {n : Nat} {s t : State} (h : flushLoop n s = .ok () t) :
    t.acc.length < s.pktValue - 1 := by
  induction n generalizing s with
  | zero =>
    rw [flushLoop] at h
    split at h <;> cases h
    assumption
  | succ n ih =>
    by_cases hq : s.acc.length < s.pktValue - 1
    · rw [flushLoop_done hq] at h
      cases h
      exact hq
    · rw [flushLoop_turn (by omega)] at h
      simpa using ih h

/-- What the input side of PUSH leaves alone. -/
theorem pushThrough_frame {data : List Byte} {s t : State} {ys : List Sample}
    (h : pushThrough data s = .ok ys t) :
    t = { s with carry := t.carry, nco := { s.nco with phase := t.nco.phase }, dec1 := t.dec1,
                 dec2 := t.dec2, dec3 := t.dec3 } := by
  obtain ⟨x0, s2, h2, h⟩ := bind_eq_ok.mp h
  obtain ⟨rfl, -⟩ := convert_ok h2
  cases h
  have e := (ncoRun_frame x0 (carrySplit data s).2).1
  simp only [decRun_state]
  rw [e]
  simp [State.setDec, State.setPhase, carrySplit_eq]

theorem pushThrough_ne_fault (data : List Byte) (s : State) (q : Fault) :
    pushThrough data s ≠ .fault q := by
  intro h
  rcases bind_eq_fault.mp h with h | ⟨x0, s2, -, h⟩
  · exact convert_ne_fault _ _ _ h
  · cases h

/-- What PUSH leaves alone. -/
theorem pushData_frame {data : List Byte} {s t : State} (h : pushData data s = .ok () t) :
    t = { s with carry := t.carry, nco := { s.nco with phase := t.nco.phase }, dec1 := t.dec1,
                 dec2 := t.dec2, dec3 := t.dec3, acc := t.acc, cnt := t.cnt, anch := t.anch,
                 dfail := t.dfail, out := t.out, host := t.host } := by
  obtain ⟨ys, s1, h1, h⟩ := bind_eq_ok.mp h
  have e1 := pushThrough_frame h1
  have e2 := flushLoop_frame h
  rw [e2, e1]
  simp [frmAccum]

/-- Taking an operation leaves everything but the port and the bench. -/
theorem nextOperation_run_frame {s s' : State} {i : Instr} (h : nextOperation s = .run i s') :
    s' = { s with port := s'.port, bench := s'.bench } := by
  unfold nextOperation at h
  split at h <;> split at h <;> cases h <;> rfl

theorem nextOperation_refuse_frame {s s' : State} {w : Reject} (h : nextOperation s = .refuse w s') :
    s' = { s with port := s'.port, bench := s'.bench } := by
  unfold nextOperation at h
  split at h <;> split at h <;> cases h <;> rfl

theorem nextOperation_ne_reset (s : State) : nextOperation s ≠ .reset := by
  unfold nextOperation
  split <;> split <;> simp

theorem nextOperation_ne_signal (s : State) : nextOperation s ≠ .signal := by
  unfold nextOperation
  split <;> split <;> simp

/-- What a fetch can be: the reset signal, the termination signal, or the next operation. -/
theorem fetch_cases (s : State) :
    (s.host.waiting = false ∧ s.rst = true ∧ fetch s = .reset) ∨
      (s.host.waiting = false ∧ s.rst = false ∧ s.term = .pending ∧ fetch s = .signal) ∨
      (NoSignalNext s ∧ fetch s = nextOperation s) := by
  unfold fetch NoSignalNext
  by_cases hw : s.host.waiting = true
  · simp [hw]
  · by_cases hr : s.rst = true
    · simp_all
    · by_cases ht : s.term = .pending <;> simp_all

theorem fetch_reset {s : State} (hw : s.host.waiting = false) (hr : s.rst = true) :
    fetch s = .reset := by
  simp [fetch, hw, hr]

theorem fetch_signal {s : State} (hw : s.host.waiting = false) (hr : s.rst = false)
    (ht : s.term = .pending) : fetch s = .signal := by
  simp [fetch, hw, hr, ht]

theorem fetch_next {s : State} (h : NoSignalNext s) : fetch s = nextOperation s := by
  rcases h with h | ⟨hr, ht⟩ <;> simp [fetch, *]

/-- A fetched operation or refusal leaves everything but the port and the bench. -/
theorem fetch_run_frame {s s' : State} {i : Instr} (h : fetch s = .run i s') :
    s' = { s with port := s'.port, bench := s'.bench } := by
  obtain ⟨-, -, hf⟩ | ⟨-, -, -, hf⟩ | ⟨-, hf⟩ := fetch_cases s
  · simp [hf] at h
  · simp [hf] at h
  · exact nextOperation_run_frame (hf ▸ h)

theorem fetch_refuse_frame {s s' : State} {w : Reject} (h : fetch s = .refuse w s') :
    s' = { s with port := s'.port, bench := s'.bench } := by
  obtain ⟨-, -, hf⟩ | ⟨-, -, -, hf⟩ | ⟨-, hf⟩ := fetch_cases s
  · simp [hf] at h
  · simp [hf] at h
  · exact nextOperation_refuse_frame (hf ▸ h)

/-- An operation that is given its answers ends as it does; one that is not leaves the block waiting. -/
theorem awaitAnswers_eq_next {s t : State} {o : Host.Outcome State Fault Refusal} :
    awaitAnswers s o = .next t ↔
      ∃ u, o = .next u ∧ ((s.host.owes u.host = false ∧ t = u) ∨
        (s.host.owes u.host = true ∧ t = s.setWaiting true)) := by
  cases o with
  | next u =>
    rw [awaitAnswers]
    split
    · next ho =>
      constructor
      · intro h; cases h; exact ⟨_, rfl, .inr ⟨ho, rfl⟩⟩
      · rintro ⟨v, hv, ⟨hf, -⟩ | ⟨-, rfl⟩⟩
        · cases hv; simp [ho] at hf
        · rfl
    · next ho =>
      constructor
      · intro h; cases h; exact ⟨_, rfl, .inl ⟨by simpa using ho, rfl⟩⟩
      · rintro ⟨v, hv, ⟨-, rfl⟩ | ⟨hf, -⟩⟩
        · cases hv; rfl
        · cases hv; exact absurd hf ho
  | fault f => simp [awaitAnswers]
  | refused r => simp [awaitAnswers]

/-- What one step can be: waiting, the reset signal, the termination signal, a refusal, one operation, or an operation that
waits for an answer of the host. -/
theorem step_cases {s t : State} (h : step s = .next t) :
    (fetch s = .wait ∧ t = s) ∨
      (s.host.waiting = false ∧ s.rst = true ∧ exec .reset s = .next t) ∨
      (s.host.waiting = false ∧ s.rst = false ∧ s.term = .pending ∧
        exec .cancel s.settleTermination = .next t) ∨
      (∃ w s', fetch s = .refuse w s' ∧ t = s'.refuse w) ∨
      (∃ i s', fetch s = .run i s' ∧ exec i (s'.setWaiting false) = .next t ∧
        s.host.owes t.host = false) ∨
      ∃ i s' u, fetch s = .run i s' ∧ exec i (s'.setWaiting false) = .next u ∧
        s.host.owes u.host = true ∧ t = s.setWaiting true := by
  unfold step at h
  split at h
  · next hf => cases h; exact .inl ⟨hf, rfl⟩
  · next hf =>
    obtain ⟨hw, hr, -⟩ | ⟨-, -, -, h'⟩ | ⟨-, h'⟩ := fetch_cases s
    · exact .inr (.inl ⟨hw, hr, h⟩)
    · simp [hf] at h'
    · exact absurd (h'.symm.trans hf) (nextOperation_ne_reset s)
  · next hf =>
    obtain ⟨-, -, h'⟩ | ⟨hw, hr, ht, -⟩ | ⟨-, h'⟩ := fetch_cases s
    · simp [hf] at h'
    · exact .inr (.inr (.inl ⟨hw, hr, ht, h⟩))
    · exact absurd (h'.symm.trans hf) (nextOperation_ne_signal s)
  · next w s' hf => cases h; exact .inr (.inr (.inr (.inl ⟨w, s', hf, rfl⟩)))
  · next i s' hf =>
    obtain ⟨u, hu, ⟨ho, rfl⟩ | ⟨ho, rfl⟩⟩ := awaitAnswers_eq_next.mp h
    · exact .inr (.inr (.inr (.inr (.inl ⟨i, s', hf, hu, ho⟩))))
    · exact .inr (.inr (.inr (.inr (.inr ⟨i, s', u, hf, hu, ho, rfl⟩))))

end Sys2Proof.Laws
end

