-- ==== Sys2Proof/Tests/Slice0.lean ====
section
/-! SUPPORT. The model's own tests: ill-formed terms that WellFormed refuses, words written out from
spec/30_encoding.md that the decoder reads, single steps whose results are the vectors of
spec/95_test_vectors.md, and for every obligation with hypotheses a named witness that meets them. -/

namespace Sys2Proof.Tests

open Sys2Proof.Machine

-- One theorem after another: fifty kernel evaluations waiting at once would each hold a stack.
set_option Elab.async false

/-! ## Helpers -/

/-- Bytes from numbers. -/
def b (l : List Nat) : List Byte := l.map (BitVec.ofNat 8)

/-- The hand-set coefficients of 95_test_vectors. -/
def H3 : List W32 := [0x3E800000, 0x3F000000, 0x3E800000]

/-- The parameters of the programs of 95_test_vectors section 3. -/
def testParams : Params :=
  { Params.default with
    taps1 := 3, taps2 := 3, taps3 := 3
    num := { Numerics.default with design := .given [H3] } }

/-- The good record of V-CTL-1. -/
def good : Settings :=
  ⟨0x4127700000000000, 0, 3, 65536, b [0x31, 0x32, 0x37, 0x2E, 0x30, 0x2E, 0x30, 0x2E, 0x31], [5000], 0⟩

/-- A record written to the registers. -/
def regsOf (c : Settings) : CfgRegs :=
  ⟨some c.rate, some c.shiftKhz, some c.pkt, some c.chunk, some c.addr, some c.ports, some c.enc⟩

/-- A host that finds the address good, opens the sinks, and answers two clock reads. -/
def testHost : HostSide :=
  { HostSide.fresh with
    parsable := [true], sinkOpen := [true]
    clock := [⟨1700000000, 999999999⟩, ⟨1700000005, 0⟩], emits := [true, false, true] }

/-- After reset, with the test parameters. -/
def fresh : State := State.afterReset { State.reset with params := testParams, host := testHost }

/-- A record written, nothing started. -/
def readyWith (c : Settings) : State := { fresh with cfg := regsOf c }

/-- A run of a record. -/
def runOf (c : Settings) : State := buildPipeline c (loadDerived c (readyWith c))

/-- A run of the good record. -/
def running : State := runOf good

/-- The state an operation leaves, where it leaves one. -/
def after (i : Instr) (s : State) : State :=
  match exec i s with
  | .next t => t
  | .fault _ => s
  | .refused _ => s

/-- Does the operation give a next state? -/
def completes (i : Instr) (s : State) : Bool :=
  match exec i s with
  | .next _ => true
  | .fault _ => false
  | .refused _ => false

theorem exec_after {i : Instr} {s : State} (h : completes i s = true) : exec i s = .next (after i s) := by
  unfold completes at h
  unfold after
  split at h <;> simp_all

/-- The state one step leaves, where it leaves one. -/
def stepped (s : State) : State :=
  match step s with
  | .next t => t
  | .fault _ => s
  | .refused _ => s

/-- Does the step give a next state? -/
def steps (s : State) : Bool :=
  match step s with
  | .next _ => true
  | .fault _ => false
  | .refused _ => false

theorem step_stepped {s : State} (h : steps s = true) : step s = .next (stepped s) := by
  unfold steps at h
  unfold stepped
  split at h <;> simp_all

/-! ## WellFormed -/

theorem test_wf_cfgwr_long : (Instr.cfgwr .addr (List.replicate (2 ^ 16) 0)).wellFormed = false := by
  simp only [Instr.wellFormed, List.length_replicate]
  decide

theorem test_wf_push_long : (Instr.push (List.replicate (2 ^ 32) 0)).wellFormed = false := by
  simp only [Instr.wellFormed, List.length_replicate]
  decide

theorem test_wf_taps_high : (Instr.lpfDesign (2 ^ 63) 0).wellFormed = false := by decide

theorem test_wf_taps_low : (Instr.lpfDesign (-2 ^ 63 - 1) 0).wellFormed = false := by decide

theorem test_wf_decRun_long :
    (Instr.decRun .s1 (List.replicate (2 ^ 32) Sample.zero)).wellFormed = false := by
  simp only [Instr.wellFormed, List.length_replicate]
  decide

theorem test_wf_ncoRun_long :
    (Instr.ncoRun (List.replicate (2 ^ 32) Sample.zero)).wellFormed = false := by
  simp only [Instr.wellFormed, List.length_replicate]
  decide

theorem test_wf_carrySplit_long : (Instr.carrySplit (List.replicate (2 ^ 32) 0)).wellFormed = false := by
  simp only [Instr.wellFormed, List.length_replicate]
  decide

theorem test_wf_convS16_long : (Instr.convS16 (List.replicate (2 ^ 32) 0)).wellFormed = false := by
  simp only [Instr.wellFormed, List.length_replicate]
  decide

theorem test_wf_convF32_long : (Instr.convF32 (List.replicate (2 ^ 32) 0)).wellFormed = false := by
  simp only [Instr.wellFormed, List.length_replicate]
  decide

theorem test_wf_tsHeader_big : (Instr.tsHeader (2 ^ 64)).wellFormed = false := by decide

theorem test_wf_frmAccum_long :
    (Instr.frmAccum (List.replicate (2 ^ 32) Sample.zero)).wellFormed = false := by
  simp only [Instr.wellFormed, List.length_replicate]
  decide

theorem test_wf_frmSend_long : (Instr.frmSend (List.replicate (2 ^ 32) 0)).wellFormed = false := by
  simp only [Instr.wellFormed, List.length_replicate]
  decide

/-! ## Decoding: the bytes of 95_test_vectors, and of 30_encoding R110 to R112 -/

theorem test_decode_reset : decode [0x00] = .ok .reset [] := by decide

/-- P1 line 2. -/
theorem test_decode_cfgwr_rate :
    decode [0x01, 0x00, 0x08, 0x00, 0x00, 0x00, 0x00, 0x00, 0x00, 0x70, 0x27, 0x41] =
      .ok (.cfgwr .rate [0x00, 0x00, 0x00, 0x00, 0x00, 0x70, 0x27, 0x41]) [] := by decide

/-- P2 line 7. -/
theorem test_decode_cfgwr_ports :
    decode [0x01, 0x05, 0x04, 0x00, 0x88, 0x13, 0x89, 0x13] =
      .ok (.cfgwr .ports [0x88, 0x13, 0x89, 0x13]) [] := by decide

theorem test_decode_start : decode [0x02] = .ok .start [] := by decide

/-- P3 step 15. -/
theorem test_decode_push : decode [0x03, 0x01, 0x00, 0x00, 0x00, 0x00] = .ok (.push [0x00]) [] := by
  decide

theorem test_decode_eos : decode [0x04] = .ok .eos [] := by decide

theorem test_decode_cancel : decode [0x05] = .ok .cancel [] := by decide

theorem test_decode_reanchor : decode [0x06] = .ok .reanchor [] := by decide

/-- P2 line 12. -/
theorem test_decode_statrd : decode [0x07, 0x13, 0x01, 0x00] = .ok (.statrd .dfail 1) [] := by decide

/-- P3 line 5. -/
theorem test_decode_statrd_status : decode [0x07, 0x11, 0x00, 0x00] = .ok (.statrd .status 0) [] := by
  decide

theorem test_decode_lpfDesign :
    decode [0x10, 0xF9, 0xFF, 0xFF, 0xFF, 0xFF, 0xFF, 0xFF, 0xFF,
      0x00, 0x00, 0x00, 0x00, 0x00, 0x00, 0xD0, 0x3F] =
      .ok (.lpfDesign (-7) 0x3FD0000000000000) [] := by decide

theorem test_decode_decStep :
    decode [0x20, 0x02, 0x00, 0x00, 0x80, 0x3F, 0x00, 0x00, 0x00, 0xBF] =
      .ok (.decStep .s3 ⟨0x3F800000, 0xBF000000⟩) [] := by decide

theorem test_decode_decRun :
    decode [0x21, 0x01, 0x01, 0x00, 0x00, 0x00, 0x00, 0x00, 0x80, 0x3F, 0x00, 0x00, 0x00, 0xBF] =
      .ok (.decRun .s2 [⟨0x3F800000, 0xBF000000⟩]) [] := by decide

theorem test_decode_ncoStep :
    decode [0x30, 0x01, 0x00, 0xC0, 0x7F, 0x00, 0x00, 0x00, 0x80] =
      .ok (.ncoStep ⟨0x7FC00001, 0x80000000⟩) [] := by decide

theorem test_decode_ncoRun : decode [0x31, 0x00, 0x00, 0x00, 0x00] = .ok (.ncoRun []) [] := by decide

theorem test_decode_carrySplit :
    decode [0x40, 0x03, 0x00, 0x00, 0x00, 0x00, 0x80, 0xFF] = .ok (.carrySplit [0x00, 0x80, 0xFF]) [] := by
  decide

theorem test_decode_convS16 :
    decode [0x41, 0x04, 0x00, 0x00, 0x00, 0x00, 0x80, 0xFF, 0x7F] =
      .ok (.convS16 [0x00, 0x80, 0xFF, 0x7F]) [] := by decide

theorem test_decode_convF32 :
    decode [0x42, 0x08, 0x00, 0x00, 0x00, 0x00, 0x00, 0x80, 0x3F, 0x00, 0x00, 0x00, 0xBF] =
      .ok (.convF32 [0x00, 0x00, 0x80, 0x3F, 0x00, 0x00, 0x00, 0xBF]) [] := by decide

theorem test_decode_tsAnchor : decode [0x50] = .ok .tsAnchor [] := by decide

theorem test_decode_tsHeader :
    decode [0x51, 0x00, 0x0F, 0x00, 0x00, 0x00, 0x00, 0x00, 0x00] = .ok (.tsHeader 3840) [] := by decide

theorem test_decode_frmAccum :
    decode [0x60, 0x01, 0x00, 0x00, 0x00, 0x00, 0x00, 0x96, 0x3B, 0x00, 0x00, 0x96, 0xBB] =
      .ok (.frmAccum [⟨0x3B960000, 0xBB960000⟩]) [] := by decide

theorem test_decode_frmFlush : decode [0x61] = .ok .frmFlush [] := by decide

theorem test_decode_frmSend :
    decode [0x62, 0x02, 0x00, 0x00, 0x00, 0xAA, 0xBB] = .ok (.frmSend [0xAA, 0xBB]) [] := by decide

theorem test_decode_unassigned :
    decode [0x08, 0x01] = .reject (.unassignedCode 0x08) [0x01] ∧
      decode [0xFF] = .reject (.unassignedCode 0xFF) [] := by decide

theorem test_decode_unknown_register :
    decode [0x01, 0x07, 0x01, 0x00, 0xAA, 0x04] = .reject (.unknownRegister 0x07) [0x04] ∧
      decode [0x07, 0x1B, 0x00, 0x00, 0x04] = .reject (.unknownRegister 0x1B) [0x04] := by decide

theorem test_tableWord_host : decodeTableWord 8 0x05 = some .cancel ∧
    decodeTableWord 16 0x0301 = some (.cfgwr .chunk []) := by decide

theorem test_tableWord_micro : decodeTableWord 8 0x61 = some .frmFlush ∧
    decodeTableWord 8 0x51 = some (.tsHeader 0) := by decide

/-! ## Single operations -/

/-- After RESET, `STATRD RUN` answers 0 (46 R251); the anchor is cleared. -/
theorem test_reset : (after .reset running).run = .unconfigured ∧
    (after .reset running).anch.valid = false ∧ (after .reset running).dec1.ph = 0 := by decide

/-- Every row of the opcode table, its operands zero, runs as the first step after reset. -/
theorem test_reset_runs_every_row :
    ([0x00, 0x01, 0x02, 0x03, 0x04, 0x05, 0x06, 0x07, 0x10, 0x20, 0x21, 0x30, 0x31, 0x40, 0x41, 0x42,
      0x50, 0x51, 0x60, 0x61, 0x62].map fun op => steps (State.reset.withFetchWord 8 op)) =
      List.replicate 21 true := by decide

/-- The same micro-operations with data, on a block just reset: a register nothing has written stops none. -/
theorem test_reset_runs_on_data :
    ([.decStep .s1 ⟨0x3F800000, 0⟩, .decRun .s3 (List.replicate 5 ⟨0x3F800000, 0⟩), .ncoStep ⟨0x3F800000, 0⟩,
      .ncoRun [⟨0x3F800000, 0⟩], .carrySplit (b [1, 2, 3, 4, 5]), .tsHeader 7, .frmFlush,
      .frmSend (b [0xAA])].map fun i => completes i State.reset) = List.replicate 8 true := by decide

/-- 43 R190 with the bytes per sample that a block just reset has: one sample out, one byte kept. -/
theorem test_reset_carrySplit :
    (after (.carrySplit (b [1, 2, 3, 4, 5])) State.reset).resp = .bytes (b [1, 2, 3, 4]) ∧
      (after (.carrySplit (b [1, 2, 3, 4, 5])) State.reset).carry = b [5] := by decide

/-- P1 line 2. -/
theorem test_cfgwr_rate :
    (after (.cfgwr .rate (b [0x00, 0x00, 0x00, 0x00, 0x00, 0x70, 0x27, 0x41])) fresh).cfg.rate =
      some 0x4127700000000000 := by decide

/-- P2 line 7. -/
theorem test_cfgwr_ports :
    (after (.cfgwr .ports (b [0x88, 0x13, 0x89, 0x13])) fresh).cfg.ports = some [5000, 5001] := by decide

/-- P1, the state after step 9. -/
theorem test_start_good :
    let t := after .start (readyWith good)
    t.run = .running ∧ t.der.bps = 4 ∧ t.der.ndest = 1 ∧ t.der.rateInt = true ∧
      t.der.rOut = 3840 ∧ t.nco.bypass = true ∧ t.dec1.coef = H3 ∧
      t.dec3.hist = [⟨0, 0⟩, ⟨0, 0⟩, ⟨0, 0⟩] ∧ t.dfail = [0] := by decide +kernel

/-- P2, line 12 with the counters of its state after step 10; past the last destination 0 (30_encoding R112). -/
theorem test_statrd_dfail :
    (after (.statrd .dfail 1) { running with der := { running.der with ndest := 2 }, dfail := [0, 1] }).resp =
        .answer 1 ∧
      (after (.statrd .dfail 1) { running with dfail := [0, 1] }).resp = .answer 0 := by decide

/-- P3 line 5. -/
theorem test_statrd_status :
    (after (.statrd .status 0) { running with status := .config }).resp = .answer 2 := by decide

/-- 43 R190 and 45 V-FRM-2: three bytes are held; the fourth makes a sample (46 R255). -/
theorem test_push_carry :
    (after (.push (b [0x00, 0x80, 0xFF])) running).carry = b [0x00, 0x80, 0xFF] ∧
      (after (.push (b [0x00, 0x80, 0xFF])) running).dec1.ph = 0 := by decide

/-- V-CNV-1 in the history of stage 1: (1, −1)/32768. -/
theorem test_push_sample :
    (after (.push (b [0x01, 0x00, 0xFF, 0xFF])) running).dec1.hist =
      [⟨0x38000000, 0xB8000000⟩, ⟨0, 0⟩, ⟨0, 0⟩] := by decide +kernel

/-- P1, the end state. -/
theorem test_eos :
    (after .eos { running with acc := [⟨0x3C898000, 0xBC898000⟩] }).run = .done ∧
      (after .eos { running with acc := [⟨0x3C898000, 0xBC898000⟩] }).acc = [] ∧
      (after .eos running).status = .ok := by decide

/-- V-CTL-2: refused after RESET. -/
theorem test_cancel :
    (after .cancel running).run = .done ∧ (after .cancel fresh).resp = .refused .wrongState := by decide

/-- 46 R259. -/
theorem test_reanchor :
    (after .reanchor { running with anch := ⟨true, 1700000000, 0⟩ }).anch =
      ⟨false, 1700000000, 0⟩ := by decide

/-- What V-LPF-2 and V-LPF-5 ask of the platform's library beyond log 4: the cosines of π/2, π, 3π/2 and
2π, and the sine of π/2. -/
def lpfTrig : List TrigRow :=
  [⟨0x400921FB54442D18, 0xBFF0000000000000, 0⟩, ⟨0x401921FB54442D18, 0x3FF0000000000000, 0⟩,
    ⟨0x3FF921FB54442D18, 0x3C91A62633145C07, 0x3FF0000000000000⟩, ⟨0x4012D97C7F3321D2, 0xBCAA79394C9E8A0A, 0⟩]

/-- After reset, with those answers and the default design. -/
def lpfState : State := { fresh with params := { Params.default with trig := lpfTrig } }

/-- V-LPF-2, and V-LPF-5's negative cutoff with the same words. -/
theorem test_lpfDesign_default :
    (after (.lpfDesign (-7) 0x3FD0000000000000) lpfState).resp =
        .coefs [0x3D3D52C1, 0x3F6855A8, 0x3D3D52C1] ∧
      (after (.lpfDesign 3 0xBFD0000000000000) lpfState).resp =
        .coefs [0x3D3D52C1, 0x3F6855A8, 0x3D3D52C1] := by decide +kernel

/-- V-LPF-5: cutoff 0 gives five zero words. -/
theorem test_lpfDesign_zero : (after (.lpfDesign 5 0) lpfState).resp = .coefs [0, 0, 0, 0, 0] := by
  decide +kernel

/-- V-LPF-1. -/
theorem test_coerce :
    [-5, 0, 1, 2, 3, 4, 5, 6, 7, 64, 65, 101].map coerceTaps =
      [3, 3, 3, 3, 3, 5, 5, 7, 7, 65, 65, 101] := by decide

/-- V-DEC-1, the state before its last input. -/
def dec4 : State :=
  { running with dec2 := ⟨H3, [⟨0x40800000, 0⟩, ⟨0x40000000, 0⟩, ⟨0x40400000, 0⟩], 1, 4⟩ }

/-- V-DEC-1, last row. -/
theorem test_decStep :
    (after (.decStep .s2 ⟨0x40A00000, 0⟩) dec4).resp = .output (some ⟨0x40800000, 0⟩) ∧
      (after (.decStep .s2 ⟨0x40A00000, 0⟩) dec4).dec2 =
        ⟨H3, [⟨0x40800000, 0⟩, ⟨0x40A00000, 0⟩, ⟨0x40400000, 0⟩], 2, 0⟩ := by decide +kernel

/-- V-DEC-1, all five inputs. -/
theorem test_decRun :
    (after (.decRun .s2 [⟨0x3F800000, 0⟩, ⟨0x40000000, 0⟩, ⟨0x40400000, 0⟩, ⟨0x40800000, 0⟩,
      ⟨0x40A00000, 0⟩]) running).resp = .samples [⟨0x40800000, 0⟩] := by decide +kernel

/-- A run with the oscillator on: V-NCO-3. -/
def shifting : State := { running with nco := ⟨0, 0x3FF921FB54442D18, false⟩ }

/-- V-NCO-3, first row. -/
theorem test_ncoStep :
    (after (.ncoStep ⟨0x3F800000, 0⟩) shifting).resp = .samples [⟨0x3F800000, 0⟩] ∧
      (after (.ncoStep ⟨0x3F800000, 0⟩) shifting).nco.phase = 0x3FF921FB54442D18 := by decide +kernel

/-- V-NCO-1. -/
theorem test_ncoRun_bypass :
    (after (.ncoRun [⟨0x7FC00001, 0x80000000⟩, ⟨0xFF800000, 0x00000001⟩]) running).resp =
      .samples [⟨0x7FC00001, 0x80000000⟩, ⟨0xFF800000, 0x00000001⟩] := by decide

/-- V-NCO-6, rows 1, 4 and 5. -/
theorem test_phase_advance :
    phaseAdvanceDefault 0x4008000000000000 0x3FE0000000000000 = 0xC00643F6A8885A30 ∧
      phaseAdvanceDefault 0 0xC02A000000000000 = 0xBFDBC095777A5D00 ∧
      phaseAdvanceDefault 0x3FF921FB54442D18 0x3FF921FB54442D18 = 0x400921FB54442D18 := by
  decide +kernel

/-- V-CNV-4, second row. -/
theorem test_carrySplit :
    (after (.carrySplit (b [0x7F, 0x01, 0x00])) { running with carry := b [0x00, 0x80, 0xFF] }).resp =
        .bytes (b [0x00, 0x80, 0xFF, 0x7F]) ∧
      (after (.carrySplit (b [0x7F, 0x01, 0x00])) { running with carry := b [0x00, 0x80, 0xFF] }).carry =
        b [0x01, 0x00] := by decide

/-- S1, V-CNV-1. -/
theorem test_convS16 :
    (after (.convS16 (b [0x00, 0x80, 0xFF, 0x7F, 0x01, 0x00, 0xFF, 0xFF])) running).resp =
      .samples [⟨0xBF800000, 0x3F7FFE00⟩, ⟨0x38000000, 0xB8000000⟩] := by decide +kernel

/-- V-CNV-3. -/
theorem test_convS16_misaligned :
    let t := after (.convS16 (b [0x00, 0x80, 0xFF])) running
    t.run = .failed ∧ t.status = .runtime ∧ t.cause = 2 ∧ t.causeInfo = 3 := by decide

/-- S2, V-CNV-2. -/
theorem test_convF32 :
    (after (.convF32 (b [0x01, 0x00, 0xC0, 0x7F, 0x00, 0x00, 0x00, 0x80])) running).resp =
      .samples [⟨0x7FC00001, 0x80000000⟩] := by decide

/-- V-CNV-2, big-endian. -/
theorem test_convF32_big :
    (after (.convF32 (b [0x3F, 0x80, 0x00, 0x00, 0xBF, 0x00, 0x00, 0x00]))
      { running with params := { testParams with endian := .big } }).resp =
      .samples [⟨0x3F800000, 0xBF000000⟩] := by decide

/-- 44 R210, the worked example; the second call changes nothing. -/
theorem test_tsAnchor :
    (after .tsAnchor running).anch = ⟨true, 1700000000, 999999999⟩ ∧
      (after .tsAnchor (after .tsAnchor running)).anch = ⟨true, 1700000000, 999999999⟩ := by
  decide

/-- V-TS-1, rows 0, 1 and 10^12. -/
theorem test_tsHeader :
    (after (.tsHeader 0) running).resp = .samples [⟨0x6553F100, 0x3B9AC9FF⟩] ∧
      (after (.tsHeader 1) running).resp = .samples [⟨0x6553F101, 0x0003F93F⟩] ∧
      (after (.tsHeader 1000000000000) running).resp = .samples [⟨0x74D9959B, 0x27BC86A9⟩] := by
  decide +kernel

/-- V-TS-5: the floating path at 768001 samples per second. -/
theorem test_tsHeader_floating :
    tsOffsetDefault 3840 ⟨768001, 200⟩ = some 999998697 ∧ tsOffsetDefault 1 ⟨768001, 200⟩ = some 260416 := by
  decide +kernel

/-- 45 R230. -/
theorem test_frmAccum :
    (after (.frmAccum [⟨2, 0⟩, ⟨3, 0⟩]) { running with acc := [⟨1, 0⟩] }).acc =
      [⟨1, 0⟩, ⟨2, 0⟩, ⟨3, 0⟩] := by decide

/-- V-FRM-1, the state before. -/
def flushing : State :=
  { running with
    acc := [⟨0x3F800000, 0xBF000000⟩, ⟨0x3B960000, 0xBB960000⟩, ⟨0, 0x80000000⟩], cnt := 4
    anch := ⟨true, 1700000000, 999999999⟩ }

/-- V-FRM-1. -/
theorem test_frmFlush :
    let t := after .frmFlush flushing
    t.acc = [⟨0, 0x80000000⟩] ∧ t.cnt = 6 ∧ t.out = [⟨0,
      b [0x01, 0xF1, 0x53, 0x65, 0x01, 0xE5, 0x0F, 0x00, 0x00, 0x00, 0x80, 0x3F, 0x00, 0x00, 0x00, 0xBF,
        0x00, 0x00, 0x96, 0x3B, 0x00, 0x00, 0x96, 0xBB], true⟩] := by decide +kernel

/-- 45 R234, the worked example. -/
theorem test_frmSend :
    let t := after (.frmSend (b [0xAA])) { running with der := { running.der with ndest := 2 }, dfail := [0, 0] }
    t.out = [⟨0, b [0xAA], true⟩, ⟨1, b [0xAA], false⟩] ∧ t.dfail = [0, 1] := by decide

/-- 10_state R40: a counter counts from 0, where START has failed before allocating it too. -/
theorem test_frmSend_unallocated :
    (after (.frmSend (b [0xAA])) { running with der := { running.der with ndest := 3 }, dfail := [] }).dfail =
      [0, 1] := by decide

/-- V-CTL-2: a micro-operation's code on the command port is refused, and the next command runs. -/
theorem test_step_refuses_micro :
    let s := { running with port := b [0x20, 0x04] }
    (stepped s).resp = .refused (.microOnPort 0x20) ∧ (stepped (stepped s)).run = .done := by decide

/-! ## Witnesses: the hypotheses of the obligations can be met -/

/-- The run of the good record meets the run's invariant. -/
theorem running_ok : Running good running where
  running := rfl
  configured := by
    refine ⟨rfl, ?_, ?_, ?_, rfl⟩ <;> decide +kernel
  stages := by
    intro k
    cases k <;> simp only [StageBuilt] <;> decide +kernel
  carry := by decide +kernel
  counter := by decide +kernel
  counters := by decide +kernel
  anchor := by
    intro h
    cases h
  queue := by decide +kernel

theorem running_inv : Inv running :=
  ⟨rfl, ⟨rfl, rfl, rfl⟩, (fun h => by cases h), running_ok.anchor, running_ok.stages,
    fun _ => ⟨good, running_ok⟩⟩

theorem reset_anchorHeld : AnchorHeld State.reset := by
  intro h
  cases h

theorem shaped_fresh : StagesShaped fresh := by
  intro k
  cases k <;> simp only [StageBuilt] <;> decide +kernel

theorem shaped_reset : StagesShaped State.reset := by
  intro k
  have h : 3 ≤ coerceTaps (tapsOf Params.default k) := by
    unfold coerceTaps
    split
    · exact le_refl 3
    · split <;> omega
  have hd : State.reset.dec k = Dec.reset Params.default k := by cases k <;> rfl
  rw [hd]
  exact ⟨List.length_replicate, List.length_replicate, (by show 0 < coerceTaps (tapsOf Params.default k); omega), by cases k <;> decide⟩

theorem test_witness_CoercedTapsAreNextOdd :
    (2 : Int) < 3 ∧ (3 ≤ (3 : Int) ∧ (3 : Int) % 2 = 1) ∧ (3 ≤ (4 : Int) ∧ (4 : Int) % 2 = 0) := by decide

theorem test_witness_DesignReturnsOddLengthAndTouchesNothing :
    running.params = fresh.params ∧ running ≠ fresh := by decide +kernel

theorem test_witness_DecStep_no_output :
    running.dec2.cur < running.dec2.hist.length ∧ (running.dec2.ph + 1) % 5 ≠ 0 := by decide

theorem test_witness_DecStep_output :
    dec4.dec2.cur < dec4.dec2.hist.length ∧ (dec4.dec2.ph + 1) % 5 = 0 := by decide

/-- Two samples, fewer than a history holds, and four, more than it holds. -/
def twoSamples : List Sample := [⟨0x3F800000, 0⟩, ⟨0x40000000, 0⟩]

def fourSamples : List Sample := [⟨0x3F800000, 0⟩, ⟨0x40000000, 0⟩, ⟨0x40400000, 0⟩, ⟨0x40800000, 0⟩]

theorem test_witness_HistoryIsAShiftRegister :
    running.dec1.hist = List.replicate 3 Sample.zero ∧ running.dec1.cur < 3 ∧
      exec (.decRun .s1 twoSamples) running = .next (after (.decRun .s1 twoSamples) running) ∧
      exec (.decRun .s1 fourSamples) running = .next (after (.decRun .s1 fourSamples) running) :=
  ⟨by decide, by decide, exec_after (by decide), exec_after (by decide)⟩

theorem test_witness_DecRunOutputCount :
    (running.dec .s1).cur < (running.dec .s1).hist.length ∧ (running.dec .s1).ph = 0 ∧
      (dec4.dec .s2).cur < (dec4.dec .s2).hist.length ∧ (dec4.dec .s2).ph = Config.factor .s2 - 1 := by
  decide

theorem test_witness_DecRunOutputCount_steps :
    completes (.decStep .s2 ⟨0x40A00000, 0⟩) dec4 = true ∧
      (after (.decStep .s2 ⟨0x40A00000, 0⟩) dec4).resp = .output (some ⟨0x40800000, 0⟩) ∧
      completes (.decRun .s2 twoSamples) (after (.decStep .s2 ⟨0x40A00000, 0⟩) dec4) = true ∧
      (after (.decRun .s2 twoSamples) (after (.decStep .s2 ⟨0x40A00000, 0⟩) dec4)).resp =
        .samples [] := by decide +kernel

theorem test_witness_DecRunIndependentOfChunking :
    exec (.decRun .s2 twoSamples) running = .next (after (.decRun .s2 twoSamples) running) ∧
      (after (.decRun .s2 twoSamples) running).resp = .samples [] ∧
      exec (.decRun .s2 []) (after (.decRun .s2 twoSamples) running) =
        .next (after (.decRun .s2 []) (after (.decRun .s2 twoSamples) running)) ∧
      (after (.decRun .s2 []) (after (.decRun .s2 twoSamples) running)).resp = .samples [] :=
  ⟨exec_after (by decide), by decide, exec_after (by decide), by decide⟩

/-- Another history in stage 3, all else equal. -/
def runningOther : State :=
  { running with dec3 := { running.dec3 with hist := [⟨7, 7⟩, ⟨7, 7⟩, ⟨7, 7⟩] } }

theorem test_witness_FilterForgetsItsHistory :
    running.params = runningOther.params ∧ (running.dec .s3).coef = (runningOther.dec .s3).coef ∧
      (running.dec .s3).hist ≠ (runningOther.dec .s3).hist ∧
      (running.dec .s3).hist.length = (runningOther.dec .s3).hist.length ∧
      (running.dec .s3).cur < (running.dec .s3).hist.length ∧
      (running.dec .s3).hist.length ≤ fourSamples.length ∧
      exec (.decRun .s3 fourSamples) running = .next (after (.decRun .s3 fourSamples) running) ∧
      exec (.decRun .s3 fourSamples) runningOther = .next (after (.decRun .s3 fourSamples) runningOther) ∧
      completes (.decRun .s3 twoSamples) (after (.decRun .s3 fourSamples) running) = true ∧
      completes (.decRun .s3 twoSamples) (after (.decRun .s3 fourSamples) runningOther) = true :=
  ⟨by decide, by decide, by decide, by decide, by decide, by decide, exec_after (by decide),
    exec_after (by decide), by decide +kernel, by decide +kernel⟩

/-- 1.0 + 1.0 is 2.0, 2.0 × 1.0 is 2.0. -/
theorem value_zero : f32Value 0x00000000 = some 0 := by
  have h : unpack fmt32 (0x00000000 : W32).toNat = .fin false 0 (-149) := by decide +kernel
  simp only [f32Value, h, signed]
  norm_num

theorem value_one : f32Value 0x3F800000 = some 1 := by
  have h : unpack fmt32 (0x3F800000 : W32).toNat = .fin false 8388608 (-23) := by decide +kernel
  simp only [f32Value, h, signed]
  norm_num

theorem value_two : f32Value 0x40000000 = some 2 := by
  have h : unpack fmt32 (0x40000000 : W32).toNat = .fin false 8388608 (-22) := by decide +kernel
  simp only [f32Value, h, signed]
  norm_num

theorem value_four : f32Value 0x40800000 = some 4 := by
  have h : unpack fmt32 (0x40800000 : W32).toNat = .fin false 8388608 (-21) := by decide +kernel
  simp only [f32Value, h, signed]
  norm_num

theorem value_five : f32Value 0x40A00000 = some 5 := by
  have h : unpack fmt32 (0x40A00000 : W32).toNat = .fin false 10485760 (-21) := by decide +kernel
  simp only [f32Value, h, signed]
  norm_num

/-- The coefficients 1, 2 on the samples (1, 0), (2, 0): the products 1, 4 and the sums 0, 1, 5. -/
theorem test_witness_ExactArithmeticIsExact_dot :
    let h : List W32 := [0x3F800000, 0x40000000]
    let w : List Sample := [⟨0x3F800000, 0⟩, ⟨0x40000000, 0⟩]
    let ps : List ℚ := [1, 4]
    testParams.num.firDot = .default ∧ h.length = w.length ∧
      h.map f32Value = ([1, 2] : List ℚ).map some ∧
      (w.map fun x => f32Value x.re) = ([1, 2] : List ℚ).map some ∧
      (w.map fun x => f32Value x.im) = ([0, 0] : List ℚ).map some ∧
      ps = List.zipWith (fun a b => a * b) [1, 2] [1, 2] ∧
      (∀ q ∈ ps, ∃ word : W32, f32Value word = some q) ∧
      ∀ j, j ≤ ps.length → ∃ word : W32, f32Value word = some (ps.take j).sum := by
  refine ⟨rfl, rfl, ?_, ?_, ?_, ?_, ?_, ?_⟩
  · simp only [List.map, value_one, value_two]
  · simp only [List.map, value_one, value_two]
  · simp only [List.map, value_zero]
  · norm_num
  · intro q hq
    simp only [List.mem_cons, List.not_mem_nil, or_false] at hq
    rcases hq with rfl | rfl
    · exact ⟨_, value_one⟩
    · exact ⟨_, value_four⟩
  · intro j hj
    match j, hj with
    | 0, _ => exact ⟨_, by simpa using value_zero⟩
    | 1, _ => exact ⟨_, by simpa using value_one⟩
    | 2, _ => exact ⟨0x40A00000, by rw [value_five]; norm_num⟩

theorem test_witness_ExactArithmeticIsExact :
    f32Value 0x3F800000 = some 1 ∧ f32Value 0x40000000 = some 2 ∧ f32Value 0x00000001 ≠ none := by
  refine ⟨value_one, value_two, ?_⟩
  · have h : unpack fmt32 (0x00000001 : W32).toNat = .fin false 1 (-149) := by decide +kernel
    simp only [f32Value, h]
    exact Option.some_ne_none _

theorem test_witness_BypassPassesEveryWordThrough : running.nco.bypass = true := by decide +kernel

theorem test_witness_NcoStepRotatesThenAdvances :
    shifting.nco.bypass = false ∧ shifting.nco.step = 0x3FF921FB54442D18 := by decide

/-- 42 R175: an empty run changes nothing, with and without the bypass. -/
theorem test_ncoRun_empty :
    exec (.ncoRun []) fresh = .next { fresh with resp := .samples [] } ∧
      exec (.ncoRun []) shifting = .next { shifting with resp := .samples [] } := ⟨rfl, rfl⟩

theorem test_witness_NcoRunRotatesEachSample :
    shifting.nco.bypass = false ∧ shifting.nco.step = 0x3FF921FB54442D18 := by decide

theorem test_witness_NcoRunIndependentOfChunking :
    completes (.ncoRun twoSamples) running = true ∧
      (after (.ncoRun twoSamples) running).resp = .samples twoSamples ∧
      completes (.ncoRun fourSamples) (after (.ncoRun twoSamples) running) = true ∧
      completes (.ncoRun [⟨0x3F800000, 0⟩]) shifting = true := by decide +kernel

theorem test_witness_PhaseStaysBounded :
    PhaseBounded shifting ∧ PhaseBounded { running with port := b [0x04] } ∧
      steps { running with port := b [0x04] } = true := by
  refine ⟨⟨rfl, rfl, fun _ => ?_, ?_, ?_, ?_⟩, ⟨rfl, rfl, fun _ => ?_, ?_, ?_, ?_⟩, ?_⟩ <;>
    decide +kernel

theorem test_witness_CarrySplit :
    running.der.bps = 4 ∧ (0 : Nat) < 4 ∧ completes (.carrySplit (b [1, 2, 3])) running = true ∧
      (after (.carrySplit (b [1, 2, 3])) running).resp = .bytes [] ∧
      completes (.carrySplit (b [4])) (after (.carrySplit (b [1, 2, 3])) running) = true ∧
      (after (.carrySplit (b [4])) (after (.carrySplit (b [1, 2, 3])) running)).resp =
        .bytes (b [1, 2, 3, 4]) := by decide

theorem test_witness_S16ConversionIsExact :
    s16Float (-32768) = 0xBF800000 ∧ s16Float 32767 = 0x3F7FFE00 ∧ s16Float (-1) = 0xB8000000 := by
  decide +kernel

theorem test_witness_ConvWholeRuns :
    (b []).length % 4 = 0 ∧ (b [1, 2, 3, 4]).length % 4 = 0 ∧ (b [1, 2, 3, 4, 5, 6, 7, 8]).length % 8 = 0 := by
  decide

theorem test_witness_MisalignedRunRaisesAlignmentError :
    (b [1]).length % 4 ≠ 0 ∧ (b [1, 2, 3]).length % 4 ≠ 0 ∧ (b [1, 2, 3, 4, 5, 6, 7]).length % 8 ≠ 0 := by
  decide

theorem test_witness_WordAndBytesAreInverse :
    bytesE .little 0x6553F100 = b [0x00, 0xF1, 0x53, 0x65] := by decide

theorem test_witness_AnchorIsTakenOnce :
    flushing.anch.valid = true ∧ running.anch.valid = false := by decide

/-- The floating path: 768001 samples a second. -/
def floating : State :=
  { running with der := { running.der with fsOut := ⟨768001, 200⟩, rateInt := false, rOut := 0 } }

theorem test_witness_HeaderIsAnchorPlusOffset :
    AnchorHeld running ∧ AnchorHeld flushing ∧ running.der.rateInt = true ∧ 0 < running.der.rOut ∧
      floating.der.rateInt = false ∧ flushing.anch.valid = true ∧ running.anch.valid = false :=
  ⟨running_ok.anchor, fun _ => by decide, by decide +kernel, by decide +kernel, rfl, rfl, rfl⟩

theorem test_witness_HeaderNanosecondsBelowOneSecond :
    completes (.tsHeader 0) running = true ∧
      (after (.tsHeader 0) running).resp = .samples [⟨0x6553F100, 0x3B9AC9FF⟩] ∧
      completes (.tsHeader 1) floating = true := by decide +kernel

/-- A tenth of a second before the seconds pass 32 bits, at 10^9 samples a second. -/
def late : State :=
  { running with
    der := { running.der with rOut := 1000000000 }
    anch := ⟨true, 4294967295, 900000000⟩ }

theorem test_witness_HeaderSteps :
    flushing.anch = ⟨true, 1700000000, 999999999⟩ ∧ 999999999 < 1000000000 ∧
      flushing.der.rateInt = true ∧ flushing.der.rOut = 3840 ∧
      completes (.tsHeader 0) flushing = true ∧
      (after (.tsHeader 0) flushing).resp = .samples [⟨0x6553F100, 0x3B9AC9FF⟩] ∧
      completes (.tsHeader 3840) flushing = true ∧
      (after (.tsHeader 3840) flushing).resp = .samples [⟨0x6553F101, 0x3B9AC9FF⟩] ∧
      3840 ∣ 0 * 1000000000 ∧ 3840 ∣ 3840 * 1000000000 ∧
      1700000000 * 1000000000 + 999999999 + 3840 * 1000000000 / 3840 < 4294967296 * 1000000000 := by
  decide +kernel

theorem test_witness_HeaderSteps_boundary :
    late.anch = ⟨true, 4294967295, 900000000⟩ ∧ late.der.rOut = 1000000000 ∧
      4294967295 * 1000000000 + 900000000 + 99999999 * 1000000000 / 1000000000 < 4294967296 * 1000000000 ∧
      (after (.tsHeader 99999999) late).resp = .samples [⟨0xFFFFFFFF, 0x3B9AC9FF⟩] := by decide +kernel

theorem test_witness_OutputRateIsExact :
    f64Lt 0 0x4127700000000000 = true ∧ (f64Frac 0x4127700000000000).isSome = true ∧
      rateIntOf (fsOutOf 0x4127700000000000) = true ∧ rOutOf (fsOutOf 0x4127700000000000) = 3840 ∧
      f64Lt 0 0x0000000000000001 = true ∧ (f64Frac 0x0000000000000001).isSome = true ∧
      rateIntOf (fsOutOf 0x0000000000000001) = false := by decide +kernel

theorem test_witness_FlushSendsOneFrame :
    flushing.cfg.pkt = some 3 ∧ 3 - 1 ≤ flushing.acc.length ∧ flushing.der.ndest ≤ flushing.dfail.length ∧
      fresh.cfg.pkt = none ∧ 0 - 1 ≤ fresh.acc.length := by decide +kernel

theorem test_witness_SendReachesEveryDestination :
    running.der.ndest = 1 ∧ running.der.ndest ≤ running.dfail.length ∧ 0 < running.host.emits.length := by
  decide

theorem test_witness_FrameLayout : twoSamples[1]? = some ⟨0x40000000, 0⟩ := by decide

theorem test_witness_CfgwrWritesItsRegister :
    fresh.run = .unconfigured ∧ (b [0, 0, 0, 0, 0, 0, 0, 0]).length = 8 ∧ (b [0]).length ≠ 8 ∧
      (∀ q ∈ [0, 65535], q < 65536) ∧ (b [1]).length % 2 = 1 ∧ b [1] = [0x01] ∧ (b []).length ≠ 1 := by
  decide

theorem test_witness_StartBuildsThePipeline :
    (readyWith good).run = .unconfigured ∧ settingsOf (readyWith good).cfg = some good ∧
      checkBeforeAddr (readyWith good).params good = none ∧
      (askParsable good.addr (readyWith good)).1 = true ∧ checkAfterAddr good = none ∧
      stepFinite good (readyWith good).params = true ∧ (askSinkOpen good.addr good.ports (readyWith good)).1 = true := by
  decide +kernel

/-- V-CTL-1: a record for each sub-code but 1, which the reset state gives, and 6, which the host gives. -/
theorem test_witness_StartReportsTheFirstBadSetting :
    settingsOf fresh.cfg = none ∧ f64Lt 0 0xBFF0000000000000 = false ∧
      f64IsFinite 0x7FF8000000000000 = false ∧ (1 : Nat) < 2 ∧
      (askParsable good.addr { readyWith good with host := { testHost with parsable := [false] } }).1 = false ∧
      (0 : Nat) ∈ [5000, 0] ∧ (65535 : Nat) < 65536 ∧ ((2 : BitVec 8) ≠ 0 ∧ (2 : BitVec 8) ≠ 1) ∧
      f64IsFinite (shiftHzOf 0x7F76C8E5CA239029) = false ∧ f64IsFinite 0x7F76C8E5CA239029 = true := by
  decide +kernel

/-- V-CTL-1, the sub-code of each row. -/
theorem test_start_sub_codes :
    [fresh, readyWith { good with rate := 0 }, readyWith { good with shiftKhz := 0x7FF0000000000000 },
      readyWith { good with pkt := 0 }, readyWith { good with chunk := 0 },
      { readyWith good with host := { testHost with parsable := [false] } },
      readyWith { good with ports := [5000, 0] }, readyWith { good with enc := 2 },
      readyWith { good with shiftKhz := 0x7F76C8E5CA239029 },
      readyWith { good with pkt := 1, enc := 2 }].map (fun s => (after .start s).causeInfo) =
      [1, 2, 3, 4, 5, 6, 7, 8, 3, 4] := by decide +kernel

theorem test_witness_UnusableSinksAreARuntimeError :
    (askSinkOpen good.addr good.ports
        { readyWith good with host := { testHost with sinkOpen := [false] } }).1 = false ∧
      (after .start { readyWith good with host := { testHost with sinkOpen := [false] } }).cause = 3 := by
  decide +kernel

theorem test_witness_StatrdAnswersAndChangesNothing :
    { running with cfg := { running.cfg with pkt := none } }.cfg.pkt = none ∧ fresh.cfg.rate = none ∧
      fresh.cfg.shiftKhz = none ∧ fresh.cfg.chunk = none ∧ fresh.cfg.addr = none ∧
      fresh.cfg.ports = none ∧ fresh.cfg.enc = none ∧ fresh.anch.valid = false ∧
      flushing.anch = ⟨true, 1700000000, 999999999⟩ ∧ running.cfg.pkt = some 3 ∧
      fresh.der.ndest ≤ (0 : BitVec 16).toNat ∧ (0 : BitVec 16).toNat < running.der.ndest ∧
      running.cfg.ports = some [5000] ∧ (∀ q ∈ [5000], q < 65536) := by decide

/-- 796 bytes and a partial sample: 199 samples, no output (P3 step 14); the 200th would follow. -/
theorem test_witness_PushCompletesAndCounts :
    Running good running ∧ completes (.push (b [1, 2, 3])) running = true ∧
      (after (.push (b [1, 2, 3])) running).carry.length = (0 + 3) % 4 :=
  ⟨running_ok, by decide +kernel, by decide +kernel⟩

theorem test_witness_FreshRunFrameCounts :
    running.carry = [] ∧ running.acc = [] ∧ running.cnt = 0 ∧ running.out = [] ∧ running.dec1.ph = 0 ∧
      running.dec2.ph = 0 ∧ running.dec3.ph = 0 ∧ completes (.push []) running = true := by decide +kernel

/-- One input sample short of a stage-3 output, with a queue one sample short of a frame. -/
def almost : State :=
  { running with
    dec1 := { running.dec1 with ph := 7 }, dec2 := { running.dec2 with ph := 4 }
    dec3 := { running.dec3 with ph := 4 }, acc := [⟨0x3F800000, 0⟩] }

theorem almost_ok : Running good almost where
  running := rfl
  configured := by
    refine ⟨rfl, ?_, ?_, ?_, rfl⟩ <;> decide +kernel
  stages := by
    intro k
    cases k <;> simp only [StageBuilt] <;> decide +kernel
  carry := by decide +kernel
  counter := by decide +kernel
  counters := by decide +kernel
  anchor := by
    intro h
    cases h
  queue := by decide +kernel

/-- A frame is emitted: the one clause of the counts that an empty chunk does not reach. -/
theorem test_witness_push_emits :
    completes (.push (b [0, 0, 0, 0])) almost = true ∧
      (after (.push (b [0, 0, 0, 0])) almost).out.length = 1 ∧
      (after (.push (b [0, 0, 0, 0])) almost).cnt = 2 ∧
      (after (.push (b [0, 0, 0, 0])) almost).anch = ⟨true, 1700000000, 999999999⟩ := by
  decide +kernel

theorem test_witness_PushEmitsTheFramesInOrder : Running good almost ∧ Running good running :=
  ⟨almost_ok, running_ok⟩

theorem test_witness_PushIndependentOfChunking :
    Running good almost ∧ completes (.push (b [0, 0, 0])) almost = true ∧
      completes (.push (b [0])) (after (.push (b [0, 0, 0])) almost) = true :=
  ⟨almost_ok, by decide +kernel, by decide +kernel⟩

theorem test_witness_EmptyPushDoesNothing : Running good running ∧ Running good almost :=
  ⟨running_ok, almost_ok⟩

theorem test_witness_EosAndCancelEndTheRun : running.run = .running := rfl

theorem test_witness_ReanchorMakesTheNextHeaderReadTheClock :
    flushing.run = .running ∧ completes (.tsHeader 4) (after .reanchor flushing) = true ∧
      (after (.tsHeader 4) (after .reanchor flushing)).host.nClock = 1 := by decide +kernel

theorem test_witness_ResetLeavesTheResetState :
    running.host.waiting = false ∧ (stepped running.raiseReset).run = .unconfigured ∧
      { fresh with host := { testHost with waiting := true } }.host.waiting = true := by decide

theorem test_witness_RefusedCommandsChangeNothing :
    running.run ≠ .unconfigured ∧ fresh.run ≠ .running ∧ (after .eos running).run ≠ .running := by decide

/-- 45 R231, R233: the two stops. -/
theorem test_witness_NothingStopsButTheFlush :
    running.cfg.pkt = some 3 ∧ running.acc.length < 3 - 1 ∧
      exec .frmFlush running = .fault .flushPrecondition ∧ fresh.cfg.pkt = none ∧
      exec (.push []) { running with cfg := { running.cfg with pkt := some 1 } } = .fault .flushNeverEnds := by
  refine ⟨by decide, by decide, rfl, rfl, rfl⟩

theorem test_witness_StepRunsTheDecodedOperation :
    fresh.term ≠ .pending ∧ fresh.rst = false ∧ fresh.host.limit = none ∧ fresh.bench = [] ∧ decode [0x04, 0x05] = .ok .eos [0x05] ∧
      isHostCommand .eos = true ∧ decode [0x50, 0x00] = .ok .tsAnchor [0x00] ∧
      isHostCommand .tsAnchor = false := by decide

/-- A run whose host answers no delivery, with the last sample of a frame on the port, and a signal raised. -/
def unanswering : State :=
  (({ almost with port := b [0x03, 0x04, 0, 0, 0, 0, 0, 0, 0, 0x04] }.undertake
    (some ⟨1, 1, 1, 0⟩)).setWaiting true).raiseTermination

/-- 70 R325: the PUSH waits, its bytes where they were and the signal untaken (60 R286); once the host
answers it completes, and then the signal is taken. -/
theorem test_witness_StepRuns_waits :
    steps unanswering = true ∧ stepped unanswering = unanswering ∧ unanswering.term = .pending ∧
      (stepped (unanswering.undertake none)).out.length = 1 ∧
      (stepped (unanswering.undertake none)).port = b [0x04] ∧
      (stepped (stepped (unanswering.undertake none))).run = .done ∧
      (stepped (stepped (unanswering.undertake none))).port = b [0x04] := by decide +kernel

/-- 70 R320: a reset signal does not cut the waiting PUSH short, and is taken once it has completed. -/
theorem test_reset_waits :
    stepped unanswering.raiseReset = unanswering.raiseReset ∧
      (stepped (unanswering.undertake none).raiseReset).out.length = 1 ∧
      (stepped (stepped (unanswering.undertake none).raiseReset)).run = .unconfigured ∧
      (stepped (stepped (unanswering.undertake none).raiseReset)).rst = false ∧
      (stepped (stepped (unanswering.undertake none).raiseReset)).out = [] := by decide +kernel

/-- A good START that waits for the sinks, and a termination signal raised meanwhile. -/
def starting : State :=
  (({ readyWith good with port := b [0x02] }.undertake (some ⟨1, 0, 0, 0⟩)).setWaiting true).raiseTermination

/-- 60 R288 (c): the signal is taken after the START, as the CANCEL of the run that START began; where the
sinks do not open it is refused, the run having failed. -/
theorem test_signal_during_start :
    stepped starting = starting ∧ starting.term = .pending ∧
      (stepped (starting.undertake none)).run = .running ∧
      (stepped (stepped (starting.undertake none))).run = .done ∧
      (stepped (stepped (starting.undertake none))).term = .taken ∧
      (let s := (starting.undertake none)
       let t := stepped { s with host := { s.host with sinkOpen := [false] } }
       t.run = .failed ∧ (stepped t).run = .failed ∧ (stepped t).term = .clear ∧
         (stepped t).resp = .refused .wrongState) := by decide +kernel

theorem test_witness_IllegalCommandsAreRefused :
    8 ≤ (0x08 : Byte).toNat ∧ 0x07 ≤ (0x07 : Byte).toNat ∧
      (0x00 : Byte).toNat + 256 * (0x00 : Byte).toNat ≤ ([] : List Byte).length ∧
      (0x07 ≤ (0x0F : Byte).toNat ∧ (0x0F : Byte).toNat < 0x10) ∧ 0x1A < (0x1B : Byte).toNat := by decide

theorem test_witness_WaitsForAWholeCommand :
    (∀ n ∈ List.range 6, b ([0x03, 0x01, 0, 0, 0].take n) ++ (b [0x03, 0x01, 0, 0, 0, 0]).drop n =
        encode (.push [0x00])) ∧
      (Instr.push [0x00]).WF ∧ isHostCommand (.push [0x00]) = true ∧
      b [0x01, 0x06] ++ b [0x01, 0x00, 0x01] = encode (.cfgwr .enc [0x01]) ∧
      b [0x07, 0x13, 0x01] ++ b [0x00] = encode (.statrd .dfail 1) ∧
      b [] ++ b [0x02] = encode .start ∧ isHostCommand (.cfgwr .enc [0x01]) = true ∧
      isHostCommand (.statrd .dfail 1) = true ∧ isHostCommand .start = true := by decide

theorem test_witness_TerminationSignalIsTakenAsCancel :
    running.run = .running ∧ running.host.waiting = false ∧ running.rst = false ∧
      running.raiseTermination.term = .pending ∧ fresh.run ≠ .running ∧ fresh.host.waiting = false ∧
      starting.host.waiting = true ∧ starting.run ≠ .done ∧ starting.run ≠ .running ∧
      { fresh with term := .pending }.term = .pending ∧
      (stepped { fresh with term := .pending }).resp = .refused .wrongState ∧
      (after .eos running).run = .done ∧
      (stepped running.raiseTermination).run = .done ∧
      (stepped (stepped running.raiseTermination)).run = .done := by decide

theorem test_witness_DecodeOfEncode :
    (Instr.lpfDesign (2 ^ 63 - 1) 0).WF ∧ (Instr.lpfDesign (-2 ^ 63) 0).WF ∧
      (Instr.tsHeader (2 ^ 64 - 1)).WF ∧ (Instr.push []).WF := by decide

theorem test_witness_EncodeOfDecode : decode [0x02, 0x04] = .ok .start [0x04] := by decide

theorem test_witness_StepKeepsTheInvariant :
    Inv running ∧ steps running = true ∧ Inv State.reset :=
  ⟨running_inv, by decide, rfl, ⟨rfl, rfl, rfl⟩, (fun h => by cases h), reset_anchorHeld, shaped_reset,
    fun h => by cases h⟩

theorem test_witness_EveryOperationKeepsTheStagesShaped :
    StagesShaped fresh ∧ completes .reset fresh = true := ⟨shaped_fresh, by decide⟩

theorem test_witness_ConfigurationIsFrozenByStart :
    completes .eos running = true ∧ running.run ≠ .unconfigured ∧ Instr.eos ≠ .reset := by decide

theorem test_witness_EndedRunStaysEnded :
    (after .eos running).run = .done ∧ isHostCommand .start = true ∧ Instr.start ≠ .reset ∧
      completes .start (after .eos running) = true ∧ (after .start fresh).run = .failed ∧
      completes (.statrd .run 0) (after .start fresh) = true := by decide

theorem test_witness_EventHistoryOnlyGrows :
    Instr.frmFlush ≠ .reset ∧ completes .frmFlush flushing = true ∧
      (after .frmFlush flushing).out ≠ [] := by decide +kernel

theorem test_witness_ClockIsReadOnce :
    completes .tsAnchor running = true ∧ (after .tsAnchor running).host.nClock = 1 := by decide

theorem test_witness_CounterMovesByWholePayloads :
    Instr.frmFlush ≠ .reset ∧ Instr.frmFlush ≠ .start ∧ completes .frmFlush flushing = true ∧
      (after .frmFlush flushing).cnt = 4 + 1 * (3 - 1) := by decide +kernel

/-- The flush with the delivery answered the other way. -/
def flushingFails : State :=
  { flushing with host := { flushing.host with emits := [false] }, dfail := [5] }

theorem test_witness_DeliveryResultsReachNothingElse :
    flushing.withoutDeliveries = flushingFails.withoutDeliveries ∧ completes .frmFlush flushing = true ∧
      completes .frmFlush flushingFails = true ∧
      (after .frmFlush flushing).dfail ≠ (after .frmFlush flushingFails).dfail := by decide +kernel

end Sys2Proof.Tests
end

/-! Words and their four bytes in either byte order (spec/00_scope.md R14). A word and its little-endian
bytes stand for the same number `leNat`; big-endian is the same with the bytes reversed. -/

namespace Sys2Proof.Proofs

open Sys2Proof.Machine

theorem leNat_injective_of_length_eq {as bs : List Byte} (hlen : as.length = bs.length)
    (h : leNat as = leNat bs) : as = bs := by
  induction as generalizing bs with
  | nil => exact (List.length_eq_zero_iff.mp hlen.symm).symm
  | cons a as ih =>
    cases bs with
    | nil => cases hlen
    | cons b bs =>
      have ha := a.isLt
      have hb := b.isLt
      simp only [leNat] at h
      have hhead : a = b := BitVec.eq_of_toNat_eq (by omega)
      have htail : as = bs := ih (Nat.succ.inj hlen) (by omega)
      rw [hhead, htail]

theorem toNat_append_byte {n : Nat} (hi : BitVec n) (lo : Byte) :
    (hi ++ lo).toNat = lo.toNat + 256 * hi.toNat := by
  rw [BitVec.toNat_append, ← Nat.shiftLeft_add_eq_or_of_lt lo.isLt, Nat.shiftLeft_eq]
  omega

theorem toNat_wordE_little (b0 b1 b2 b3 : Byte) :
    (wordE .little b0 b1 b2 b3).toNat = leNat [b0, b1, b2, b3] := by
  simp only [wordE, toNat_append_byte, leNat]
  omega

@[simp] theorem leNat_bytesE_little (w : W32) : leNat (bytesE .little w) = w.toNat := by
  have hw : w.toNat < 2 ^ 32 := w.isLt
  simp only [bytesE, leNat, BitVec.extractLsb'_toNat, Nat.shiftRight_eq_div_pow]
  omega

@[simp] theorem bytesE_length (e : Endian) (w : W32) : (bytesE e w).length = 4 := by
  cases e <;> rfl

theorem wordE_big_eq_little (b0 b1 b2 b3 : Byte) :
    wordE .big b0 b1 b2 b3 = wordE .little b3 b2 b1 b0 := rfl

theorem bytesE_big_eq_reverse (w : W32) : bytesE .big w = (bytesE .little w).reverse := rfl

theorem bytesE_little_wordE (b0 b1 b2 b3 : Byte) :
    bytesE .little (wordE .little b0 b1 b2 b3) = [b0, b1, b2, b3] :=
  leNat_injective_of_length_eq (bytesE_length _ _)
    (by rw [leNat_bytesE_little, toNat_wordE_little])

@[simp] theorem bytesE_wordE (e : Endian) (b0 b1 b2 b3 : Byte) :
    bytesE e (wordE e b0 b1 b2 b3) = [b0, b1, b2, b3] := by
  cases e with
  | little => exact bytesE_little_wordE b0 b1 b2 b3
  | big => rw [wordE_big_eq_little, bytesE_big_eq_reverse, bytesE_little_wordE]; rfl

theorem bytesE_injective (e : Endian) : Function.Injective (bytesE e) := by
  intro v w h
  have hlittle : bytesE .little v = bytesE .little w := by
    cases e with
    | little => exact h
    | big => exact List.reverse_injective h
  exact BitVec.eq_of_toNat_eq (by rw [← leNat_bytesE_little, hlittle, leNat_bytesE_little])

theorem wordE_eq_of_bytesE_eq {e : Endian} {b0 b1 b2 b3 : Byte} {w : W32}
    (h : bytesE e w = [b0, b1, b2, b3]) : wordE e b0 b1 b2 b3 = w :=
  bytesE_injective e ((bytesE_wordE e b0 b1 b2 b3).trans h.symm)

/-- Settles O20: a word and its little-endian bytes have the same `leNat`, which determines both, and
big-endian is the reverse. -/
theorem wordAndBytesAreInverse : Obligations.WordAndBytesAreInverse :=
  ⟨fun e b0 b1 b2 b3 _ => ⟨bytesE_wordE e b0 b1 b2 b3, wordE_eq_of_bytesE_eq⟩,
    fun w => ⟨bytesE_length .little w, leNat_bytesE_little w, bytesE_big_eq_reverse w⟩⟩

end Sys2Proof.Proofs

/-! What a command can do when it answers a next state, said once: the command a lifecycle state refuses, a converter
alone, FRM.FLUSH alone, PUSH, and START (spec/46_pipeline_control.md R250, R253, R255). -/

namespace Sys2Proof.Proofs

open Sys2Proof.Machine Sys2Proof.Laws

theorem acceptedIn_eq_next {r : RunState} {s t : State} {go : Host.Outcome State Fault Refusal} :
    acceptedIn r s go = .next t ↔
      (s.run = r ∧ go = .next t) ∨ (s.run ≠ r ∧ t = s.refuse .wrongState) := by
  by_cases h : s.run = r
  · simp [acceptedIn_self h, h]
  · simp [acceptedIn_other h, h, eq_comm]

/-- A command with one effect is refused or has it. -/
theorem acceptedIn_next_cases {r : RunState} {s t u : State}
    (h : acceptedIn r s (.next u) = .next t) : t = u ∨ t = s.refuse .wrongState := by
  obtain ⟨-, h⟩ | ⟨-, hrefused⟩ := acceptedIn_eq_next.mp h
  · cases h
    exact .inl rfl
  · exact .inr hrefused

/-- A converter alone hands its samples back or raises the alignment error. -/
theorem aligned_outcome_next {w : Nat} {bytes : List Byte} {f : List Byte → List Sample}
    {view : List Sample → Resp} {s t : State} (h : (aligned w bytes f s).outcome view = .next t) :
    t = s.respond (view (f bytes)) ∨ t = takeError .alignment bytes.length s := by
  obtain ⟨ys, u, hok, rfl⟩ | hraised := outcome_eq_next.mp h
  · obtain ⟨-, rfl, rfl⟩ := aligned_ok hok
    exact .inl rfl
  · exact .inr (aligned_raised hraised).2

theorem exec_frmFlush_next {s t : State} (h : exec .frmFlush s = .next t) :
    t = (flushFrame (s.pktValue - 1) s).respond .done := by
  obtain ⟨⟨⟩, u, hok, rfl⟩ | hraised := outcome_eq_next.mp h
  · rw [(frmFlush_eq_ok.mp hok).2]
  · exact absurd hraised (frmFlush_ne_raised s t)

theorem flushLoop_ne_raised (n : Nat) (s t : State) : flushLoop n s ≠ .raised t := by
  induction n generalizing s with
  | zero => rw [flushLoop]; split <;> simp
  | succ n ih =>
    by_cases hq : s.acc.length < s.pktValue - 1
    · simp [flushLoop_done hq]
    · rw [flushLoop_turn (by omega)]
      exact ih _

/-- The input side of PUSH in its parts: the carry is split, the samples go through the oscillator and then through
the three stages. -/
theorem pushThrough_eq_ok {data : List Byte} {s t : State} {ys : List Sample}
    (h : pushThrough data s = .ok ys t) :
    ∃ x0 x1 y1 y2 : List Sample,
      t = (decRun .s3 y2 (decRun .s2 y1 (decRun .s1 x1 (ncoRun x0 (carrySplit data s).2).2).2).2).2 := by
  obtain ⟨x0, s2, h2, h⟩ := bind_eq_ok.mp h
  obtain ⟨rfl, -⟩ := convert_ok h2
  cases h
  exact ⟨x0, _, _, _, rfl⟩

/-- PUSH raises the converter's alignment error alone, on the state the carry split leaves. -/
theorem pushData_raised {data : List Byte} {s t : State} (h : pushData data s = .raised t) :
    ∃ n, t = takeError .alignment n (carrySplit data s).2 := by
  obtain h | ⟨ys, u, -, h⟩ := bind_eq_raised.mp h
  · obtain h | ⟨x0, u, -, h⟩ := bind_eq_raised.mp h
    · exact ⟨_, convert_raised h⟩
    · cases h
  · exact absurd h (flushLoop_ne_raised _ _ _)

/-- What PUSH can be: refused, done, or ended by the alignment error (46 R250, R255). -/
theorem exec_push_next {data : List Byte} {s t : State} (h : exec (.push data) s = .next t) :
    (s.run ≠ .running ∧ t = s.refuse .wrongState) ∨
      (∃ u, s.run = .running ∧ pushData data s = .ok () u ∧ t = u.respond .done) ∨
      ∃ n, s.run = .running ∧ t = takeError .alignment n (carrySplit data s).2 := by
  obtain ⟨hrun, h⟩ | hrefused := acceptedIn_eq_next.mp h
  · obtain ⟨⟨⟩, u, hok, rfl⟩ | hraised := outcome_eq_next.mp h
    · exact .inr (.inl ⟨u, hrun, hok, rfl⟩)
    · obtain ⟨n, rfl⟩ := pushData_raised hraised
      exact .inr (.inr ⟨n, hrun, rfl⟩)
  · exact .inl hrefused

/-- START admits the settings `c`: every check of 46 R253 but the host's two answers. -/
structure Admits (c : Settings) (s : State) : Prop where
  written : settingsOf s.cfg = some c
  beforeAddr : checkBeforeAddr s.params c = none
  afterAddr : checkAfterAddr c = none
  finite : stepFinite c s.params = true

/-- START has failed: a configuration error 1 to 8 or the runtime error 1, on a state in which the derived constants,
the oscillator and the host's side alone may have changed (46 R253, 60_exceptions R280, R281, R283). -/
def StartFailed (s t : State) : Prop :=
  ∃ e code u, t = takeError e code u ∧
    (e = .config ∧ 1 ≤ code ∧ code ≤ 8 ∨ e = .runtime ∧ code = 1) ∧
    u = { s with der := u.der, nco := u.nco, host := u.host }

/-- START has built the pipeline of the settings `c`, the host having answered (46 R253). -/
def StartBuilt (c : Settings) (s t : State) : Prop :=
  ∃ host, t = (buildPipeline c (loadDerived c { s with host := host })).respond .done

theorem checkBeforeAddr_range {p : Params} {c : Settings} {code : Nat}
    (h : checkBeforeAddr p c = some code) : 1 ≤ code ∧ code ≤ 8 := by
  unfold checkBeforeAddr at h
  split_ifs at h <;> cases h <;> decide

theorem checkAfterAddr_range {c : Settings} {code : Nat} (h : checkAfterAddr c = some code) :
    1 ≤ code ∧ code ≤ 8 := by
  unfold checkAfterAddr at h
  split_ifs at h <;> cases h <;> decide

theorem openAndBuild_cases (c : Settings) (s : State) (host : HostSide) :
    StartFailed s (openAndBuild c (loadDerived c { s with host := host })) ∨
      StartBuilt c s (openAndBuild c (loadDerived c { s with host := host })) := by
  unfold openAndBuild
  dsimp only
  rw [askSinkOpen_frame]
  generalize (askSinkOpen c.addr c.ports (loadDerived c { s with host := host })).2.host = host'
  split
  · exact .inr ⟨host', rfl⟩
  · exact .inl ⟨_, _, _, rfl, .inr ⟨rfl, rfl⟩, rfl⟩

theorem startFromAddr_cases {c : Settings} {s : State} :
    StartFailed s (startFromAddr c s) ∨
      (checkAfterAddr c = none ∧ stepFinite c s.params = true ∧ StartBuilt c s (startFromAddr c s)) := by
  unfold startFromAddr
  dsimp only
  rw [askParsable_frame]
  split
  · exact .inl ⟨_, _, _, rfl, .inl ⟨rfl, by decide, by decide⟩, rfl⟩
  · split
    · next code hcode => exact .inl ⟨_, _, _, rfl, .inl ⟨rfl, checkAfterAddr_range hcode⟩, rfl⟩
    · next hafter =>
      split
      · next hfinite =>
        exact (openAndBuild_cases c s _).imp_right fun hbuilt => ⟨hafter, hfinite, hbuilt⟩
      · exact .inl ⟨_, _, _, rfl, .inl ⟨rfl, by decide, by decide⟩, rfl⟩

/-- What START does in the configure phase: it fails, or it admits the settings and builds their pipeline. -/
theorem startUp_cases (s : State) :
    StartFailed s (startUp s) ∨ ∃ c, Admits c s ∧ StartBuilt c s (startUp s) := by
  unfold startUp
  split
  · exact .inl ⟨_, _, _, rfl, .inl ⟨rfl, by decide, by decide⟩, rfl⟩
  · next c hwritten =>
    split
    · next code hcode => exact .inl ⟨_, _, _, rfl, .inl ⟨rfl, checkBeforeAddr_range hcode⟩, rfl⟩
    · next hbefore =>
      obtain hfailed | ⟨hafter, hfinite, hbuilt⟩ := startFromAddr_cases (c := c) (s := s)
      · exact .inl hfailed
      · exact .inr ⟨c, ⟨hwritten, hbefore, hafter, hfinite⟩, hbuilt⟩

/-- What START can be: refused, failed, or the beginning of a run (46 R250, R253). -/
theorem exec_start_next {s t : State} (h : exec .start s = .next t) :
    (s.run ≠ .unconfigured ∧ t = s.refuse .wrongState) ∨
      (s.run = .unconfigured ∧ StartFailed s t) ∨
      ∃ c, s.run = .unconfigured ∧ Admits c s ∧ StartBuilt c s t := by
  obtain ⟨hrun, h⟩ | hrefused := acceptedIn_eq_next.mp h
  · cases h
    obtain hfailed | ⟨c, hadmits, hbuilt⟩ := startUp_cases s
    · exact .inr (.inl ⟨hrun, hfailed⟩)
    · exact .inr (.inr ⟨c, hrun, hadmits, hbuilt⟩)
  · exact .inl hrefused

end Sys2Proof.Proofs

/-! The shape of the three stages under every operation (spec/10_state.md R33 to R36). -/

namespace Sys2Proof.Proofs

open Sys2Proof.Machine Sys2Proof.Laws

theorem builtStage_built (p : Params) (k : Stage) : StageBuilt p k (builtStage p k) := by
  have hT := three_le_coerceTaps (tapsOf p k)
  exact ⟨numDesign_length _ _ _, List.length_replicate, by simp only [builtStage]; omega, factor_pos k⟩

theorem buildPipeline_stagesShaped (c : Settings) (s : State) : StagesShaped (buildPipeline c s) := by
  intro k
  cases k <;> exact builtStage_built _ _

theorem afterReset_stagesShaped (s : State) : StagesShaped s.afterReset := by
  intro k
  rw [afterReset_dec]
  exact reset_built s.params k

theorem setDec_stagesShaped {s : State} {k : Stage} {d : Dec} (h : StagesShaped s)
    (hd : StageBuilt s.params k d) : StagesShaped (s.setDec k d) := by
  intro k'
  rw [setDec_params]
  by_cases hk : k' = k
  · subst hk
    rwa [setDec_dec_self]
  · rw [setDec_dec_other s d hk]
    exact h k'

theorem decStep_stagesShaped {s : State} (k : Stage) (x : Sample) (h : StagesShaped s) :
    StagesShaped (decStep k x s).2 := by
  rw [decStep_state]
  exact setDec_stagesShaped h (decWrite_built (h k))

theorem decRun_stagesShaped {s : State} (k : Stage) (run : List Sample) (h : StagesShaped s) :
    StagesShaped (decRun k run s).2 := by
  rw [decRun_state]
  exact setDec_stagesShaped h (writtenRun_built (h k))

theorem ncoRun_stagesShaped {s : State} (run : List Sample) (h : StagesShaped s) :
    StagesShaped (ncoRun run s).2 := by
  rw [(ncoRun_frame run s).1]
  exact h

theorem pushThrough_stagesShaped {data : List Byte} {s t : State} {ys : List Sample}
    (h : StagesShaped s) (hpush : pushThrough data s = .ok ys t) : StagesShaped t := by
  obtain ⟨x0, x1, y1, y2, rfl⟩ := pushThrough_eq_ok hpush
  have hcarry : StagesShaped (carrySplit data s).2 := h
  exact decRun_stagesShaped _ _ <| decRun_stagesShaped _ _ <| decRun_stagesShaped _ _ <|
    ncoRun_stagesShaped _ hcarry

theorem flushFrame_stagesShaped {s : State} (n : Nat) (h : StagesShaped s) :
    StagesShaped (flushFrame n s) := by
  rw [flushFrame_frame]
  exact h

theorem pushData_stagesShaped {data : List Byte} {s t : State} (h : StagesShaped s)
    (hpush : pushData data s = .ok () t) : StagesShaped t := by
  obtain ⟨ys, u, hthrough, hflush⟩ := bind_eq_ok.mp hpush
  have hu : StagesShaped u := pushThrough_stagesShaped h hthrough
  rw [flushLoop_frame hflush]
  exact hu

theorem exec_push_stagesShaped {data : List Byte} {s t : State} (h : StagesShaped s)
    (hexec : exec (.push data) s = .next t) : StagesShaped t := by
  obtain ⟨-, rfl⟩ | ⟨u, -, hok, rfl⟩ | ⟨n, -, rfl⟩ := exec_push_next hexec
  · exact h
  · have hu : StagesShaped u := pushData_stagesShaped h hok
    exact hu
  · exact h

theorem exec_start_stagesShaped {s t : State} (h : StagesShaped s)
    (hexec : exec .start s = .next t) : StagesShaped t := by
  obtain ⟨-, rfl⟩ | ⟨-, e, code, u, rfl, -, hu⟩ | ⟨c, -, -, host, rfl⟩ := exec_start_next hexec
  · exact h
  · rw [hu]
    exact h
  · exact buildPipeline_stagesShaped c _

/-- Settles O54: RESET and START build the stages, DEC.STEP, DEC.RUN and PUSH write samples into them, which keeps
their shape, and no other operation touches them. -/
theorem everyOperationKeepsTheStagesShaped : Obligations.EveryOperationKeepsTheStagesShaped := by
  unfold Obligations.EveryOperationKeepsTheStagesShaped
  intro i s t hs h
  cases i with
  | reset => cases h; exact afterReset_stagesShaped s
  | cfgwr reg value => obtain rfl | rfl := acceptedIn_next_cases h <;> exact hs
  | start => exact exec_start_stagesShaped hs h
  | push data => exact exec_push_stagesShaped hs h
  | eos => obtain rfl | rfl := acceptedIn_next_cases h <;> exact hs
  | cancel => obtain rfl | rfl := acceptedIn_next_cases h <;> exact hs
  | reanchor => obtain rfl | rfl := acceptedIn_next_cases h <;> exact hs
  | statrd reg idx => cases h; exact hs
  | lpfDesign taps cutoff => cases h; exact hs
  | decStep k x => cases h; exact decStep_stagesShaped k x hs
  | decRun k run => cases h; exact decRun_stagesShaped k run hs
  | ncoStep x => cases h; rw [ncoStep_frame]; exact hs
  | ncoRun run => cases h; exact ncoRun_stagesShaped run hs
  | carrySplit chunk => cases h; exact hs
  | convS16 bytes => obtain rfl | rfl := aligned_outcome_next h <;> exact hs
  | convF32 bytes => obtain rfl | rfl := aligned_outcome_next h <;> exact hs
  | tsAnchor => cases h; rw [tsAnchor_frame]; exact hs
  | tsHeader n => cases h; rw [tsHeader_state, tsAnchor_frame]; exact hs
  | frmAccum run => cases h; exact hs
  | frmFlush => rw [exec_frmFlush_next h]; exact flushFrame_stagesShaped _ hs
  | frmSend bytes => cases h; rw [frmSend, deliverFrom_frame]; exact hs

end Sys2Proof.Proofs

/-! The event history (spec/10_state.md R47): deliveries alone write it, at its end, to destinations below `NDEST`. -/

namespace Sys2Proof.Proofs

open Sys2Proof.Machine Sys2Proof.Laws

/-- The history `new` is `old` followed by deliveries to destinations below `n`. -/
def EmittedTo (n : Nat) (old new : List Event) : Prop :=
  ∃ es : List Event, new = old ++ es ∧ ∀ e ∈ es, e.dest < n

theorem EmittedTo.refl (n : Nat) (out : List Event) : EmittedTo n out out :=
  ⟨[], (List.append_nil out).symm, by simp⟩

theorem EmittedTo.trans {n : Nat} {o1 o2 o3 : List Event} (h12 : EmittedTo n o1 o2)
    (h23 : EmittedTo n o2 o3) : EmittedTo n o1 o3 := by
  obtain ⟨es, rfl, hes⟩ := h12
  obtain ⟨fs, rfl, hfs⟩ := h23
  exact ⟨es ++ fs, List.append_assoc .., fun e he => (List.mem_append.mp he).elim (hes e) (hfs e)⟩

theorem deliverFrom_emitted (b : List Byte) (n : Nat) (s : State) :
    EmittedTo n s.out (deliverFrom b n 0 s).out := by
  obtain ⟨oks, hlen, hout⟩ := deliverFrom_out b n 0 s
  refine ⟨_, hout, fun e he => ?_⟩
  obtain ⟨⟨ok, d⟩, hp, rfl⟩ := List.mem_map.mp he
  obtain ⟨-, hd, -⟩ := List.mem_zipIdx hp
  show d < n
  omega

theorem flushFrame_emitted (n : Nat) (s : State) :
    EmittedTo s.der.ndest s.out (flushFrame n s).out := by
  rw [flushFrame_eq]
  simpa using deliverFrom_emitted _ s.der.ndest (tsAnchor { s with acc := s.acc.drop n })

theorem flushFrame_der (n : Nat) (s : State) : (flushFrame n s).der = s.der := by
  rw [flushFrame_frame]

theorem flushLoop_emitted {n : Nat} {s t : State} (h : flushLoop n s = .ok () t) :
    EmittedTo s.der.ndest s.out t.out := by
  induction n generalizing s with
  | zero =>
    rw [flushLoop] at h
    split at h <;> cases h
    exact .refl _ _
  | succ n ih =>
    by_cases hq : s.acc.length < s.pktValue - 1
    · rw [flushLoop_done hq] at h
      cases h
      exact .refl _ _
    · rw [flushLoop_turn (by omega)] at h
      have hrest := ih h
      rw [flushFrame_der] at hrest
      exact (flushFrame_emitted _ s).trans hrest

theorem pushData_emitted {data : List Byte} {s t : State} (h : pushData data s = .ok () t) :
    EmittedTo s.der.ndest s.out t.out := by
  obtain ⟨ys, u, hthrough, hflush⟩ := bind_eq_ok.mp h
  have hloop := flushLoop_emitted hflush
  rw [frmAccum_der, frmAccum_out, pushThrough_frame hthrough] at hloop
  exact hloop

theorem exec_push_emitted {data : List Byte} {s t : State} (h : exec (.push data) s = .next t) :
    EmittedTo s.der.ndest s.out t.out := by
  obtain ⟨-, rfl⟩ | ⟨u, -, hok, rfl⟩ | ⟨n, -, rfl⟩ := exec_push_next h
  · exact .refl _ _
  · have hout : EmittedTo s.der.ndest s.out u.out := pushData_emitted hok
    exact hout
  · exact .refl _ _

theorem exec_start_out {s t : State} (h : exec .start s = .next t) : t.out = s.out := by
  obtain ⟨-, rfl⟩ | ⟨-, e, code, u, rfl, -, hu⟩ | ⟨c, -, -, host, rfl⟩ := exec_start_next h
  · rfl
  · rw [hu]
    rfl
  · rfl

/-- The operations that deliver nothing and keep the history: every one but RESET and those that send frames. -/
def Silent : Instr → Prop
  | .reset => False
  | .push _ => False
  | .frmFlush => False
  | .frmSend _ => False
  | _ => True

theorem exec_silent_out {i : Instr} {s t : State} (hi : Silent i) (h : exec i s = .next t) :
    t.out = s.out := by
  cases i with
  | reset => exact hi.elim
  | cfgwr reg value => obtain rfl | rfl := acceptedIn_next_cases h <;> rfl
  | start => exact exec_start_out h
  | push data => exact hi.elim
  | eos => obtain rfl | rfl := acceptedIn_next_cases h <;> rfl
  | cancel => obtain rfl | rfl := acceptedIn_next_cases h <;> rfl
  | reanchor => obtain rfl | rfl := acceptedIn_next_cases h <;> rfl
  | statrd reg idx => cases h; rfl
  | lpfDesign taps cutoff => cases h; rfl
  | decStep k x => cases h; simp
  | decRun k run => cases h; simp
  | ncoStep x => cases h; rw [ncoStep_frame]; rfl
  | ncoRun run => cases h; rw [(ncoRun_frame run s).1]; rfl
  | carrySplit chunk => cases h; rfl
  | convS16 bytes => obtain rfl | rfl := aligned_outcome_next h <;> rfl
  | convF32 bytes => obtain rfl | rfl := aligned_outcome_next h <;> rfl
  | tsAnchor => cases h; simp
  | tsHeader n => cases h; simp
  | frmAccum run => cases h; rfl
  | frmFlush => exact hi.elim
  | frmSend bytes => exact hi.elim

theorem exec_emitted {i : Instr} {s t : State} (hi : i ≠ .reset) (h : exec i s = .next t) :
    EmittedTo s.der.ndest s.out t.out := by
  by_cases hq : Silent i
  · rw [exec_silent_out hq h]
    exact .refl _ _
  · cases i with
    | reset => exact absurd rfl hi
    | push data => exact exec_push_emitted h
    | frmFlush => rw [exec_frmFlush_next h]; exact flushFrame_emitted _ s
    | frmSend bytes => cases h; exact deliverFrom_emitted bytes s.der.ndest s
    | _ => exact absurd trivial hq

/-- Settles O57: FRM.SEND delivers to the destinations 0 to `NDEST - 1`, FRM.FLUSH and PUSH go through it, and the
silent operations keep the history. -/
theorem eventHistoryOnlyGrows : Obligations.EventHistoryOnlyGrows := by
  unfold Obligations.EventHistoryOnlyGrows
  intro i s t hi h
  obtain ⟨es, hout, hdest⟩ := exec_emitted hi h
  refine ⟨es, hout, fun hes => ?_, hdest⟩
  have hloud : ¬ Silent i := by
    intro hq
    rw [exec_silent_out hq h] at hout
    exact hes (List.self_eq_append_right.mp hout)
  cases i with
  | reset => exact absurd rfl hi
  | push data => exact .inr (.inl ⟨data, rfl⟩)
  | frmFlush => exact .inl rfl
  | frmSend bytes => exact .inr (.inr ⟨bytes, rfl⟩)
  | _ => exact absurd trivial hloud

end Sys2Proof.Proofs

/-! The output rate (spec/10_state.md R28): the exact fraction `CFG_RATE / 200`. -/

namespace Sys2Proof.Proofs

open Sys2Proof.Machine Sys2Proof.Laws

theorem scaleBy_den_pos (n : Nat) {d : Nat} (hd : 0 < d) (e : Int) : 0 < (scaleBy n d e).2 := by
  unfold scaleBy
  split
  · exact Nat.mul_pos hd (Nat.two_pow_pos _)
  · exact hd

theorem scaleBy_num_pos {n : Nat} (hn : 0 < n) (d : Nat) (e : Int) : 0 < (scaleBy n d e).1 := by
  unfold scaleBy
  split
  · exact hn
  · exact Nat.mul_pos hn (Nat.two_pow_pos _)

/-- A value above zero has a clear sign and a magnitude that is not zero. -/
theorem pos_of_ltVal_zero {neg : Bool} {m : Nat} {e e0 : Int}
    (h : ltVal (.fin false 0 e0) (.fin neg m e) = true) : neg = false ∧ 0 < m := by
  cases neg with
  | true =>
    have hneg : (m : Int) * 2 ^ (e - min e0 e).toNat < 0 := by
      simpa [ltVal, alignTo, signed] using h
    exact absurd hneg (not_lt.mpr (by positivity))
  | false => simpa [ltVal, alignTo, signed] using h

theorem f64Frac_pos {rate : F64} {q : Frac} (hpos : f64Lt 0 rate = true)
    (hq : f64Frac rate = some q) : 0 < q.num ∧ 0 < q.den := by
  unfold f64Lt at hpos
  rw [show unpack fmt64 (0 : F64).toNat = .fin false 0 (fmtMinExp fmt64) by decide] at hpos
  unfold f64Frac at hq
  split at hq
  · cases hq
  · cases hq
  · next neg m e hval =>
    rw [hval] at hpos
    obtain ⟨rfl, hm⟩ := pos_of_ltVal_zero hpos
    cases hq
    exact ⟨scaleBy_num_pos hm 1 _, scaleBy_den_pos m Nat.one_pos _⟩

theorem fsOutOf_eq {rate : F64} {q : Frac} (hq : f64Frac rate = some q) :
    fsOutOf rate = ⟨q.num, 200 * q.den⟩ := by
  simp [fsOutOf, hq, Config.decim, Nat.mul_comm]

/-- Settles O25: `fsOutOf` puts the exact value of the rate over 200, and `rateIntOf` and `rOutOf` are that
fraction's remainder test and quotient. -/
theorem outputRateIsExact : Obligations.OutputRateIsExact := by
  unfold Obligations.OutputRateIsExact
  intro rate q fs hpos hq hfs
  obtain ⟨hnum, hden⟩ := f64Frac_pos hpos hq
  obtain rfl : (⟨q.num, 200 * q.den⟩ : Frac) = fs := (fsOutOf_eq hq).symm.trans hfs
  have hint : rateIntOf ⟨q.num, 200 * q.den⟩ = true ↔ (200 * q.den) ∣ q.num := by
    simp [rateIntOf, Nat.dvd_iff_mod_eq_zero]
  have hfs : 0 < 200 * q.den := by omega
  refine ⟨hden, hnum, hfs, rfl, hint, fun hr => ?_⟩
  have hdvd := hint.mp hr
  exact ⟨Nat.div_mul_cancel hdvd, Nat.div_pos (Nat.le_of_dvd hnum hdvd) hfs⟩

end Sys2Proof.Proofs

/-! The command port gives host commands alone (spec/30_encoding.md R113): the decoder's answer has the code at the
head of the bytes, and the port lets codes up to 0x07 through. -/

namespace Sys2Proof.Proofs

open Sys2Proof.Machine Sys2Proof.Laws

/-- Whatever instruction `d` answers has the operation code `op`. -/
def HasCode (op : Byte) (d : Decoded) : Prop :=
  ∀ i rest, d = .ok i rest → opCode i = op

theorem hasCode_ok {op : Byte} {i : Instr} {rest : List Byte} (h : op.toNat = (opCode i).toNat) :
    HasCode op (.ok i rest) := by
  intro i' rest' hok
  cases hok
  exact (BitVec.eq_of_toNat_eq h).symm

theorem hasCode_reject (op : Byte) (why : Reject) (rest : List Byte) :
    HasCode op (.reject why rest) := by
  intro i' rest' hok
  cases hok

theorem hasCode_takeBytes {op : Byte} {n : Nat} {bs : List Byte}
    {k : List Byte → List Byte → Decoded} (h : ∀ field rest, HasCode op (k field rest)) :
    HasCode op (takeBytes n bs k) := by
  unfold takeBytes
  split
  · exact h _ _
  · intro i rest hok
    cases hok

theorem hasCode_takeLE {op : Byte} {n : Nat} {bs : List Byte} {k : Nat → List Byte → Decoded}
    (h : ∀ v rest, HasCode op (k v rest)) : HasCode op (takeLE n bs k) :=
  hasCode_takeBytes fun field rest => h (leNat field) rest

theorem hasCode_takeBlock {op : Byte} {bs : List Byte} {k : List Byte → List Byte → Decoded}
    (h : ∀ data rest, HasCode op (k data rest)) : HasCode op (takeBlock bs k) :=
  hasCode_takeLE fun _ _ => hasCode_takeBytes h

theorem hasCode_takeByte {op : Byte} {bs : List Byte} {k : Byte → List Byte → Decoded}
    (h : ∀ b rest, HasCode op (k b rest)) : HasCode op (takeByte bs k) := by
  cases bs with
  | nil => intro i rest hok; cases hok
  | cons b rest => exact h b rest

theorem hasCode_takeStage {op : Byte} {bs : List Byte} {k : Stage → List Byte → Decoded}
    (h : ∀ st rest, HasCode op (k st rest)) : HasCode op (takeStage bs k) :=
  hasCode_takeByte fun b rest => by
    split
    · exact h _ rest
    · exact hasCode_reject _ _ _

theorem hasCode_takeSample {op : Byte} {bs : List Byte} {k : Sample → List Byte → Decoded}
    (h : ∀ x rest, HasCode op (k x rest)) : HasCode op (takeSample bs k) :=
  hasCode_takeBytes fun _ rest => h _ rest

theorem hasCode_takeRun {op : Byte} {bs : List Byte} {k : List Sample → List Byte → Decoded}
    (h : ∀ run rest, HasCode op (k run rest)) : HasCode op (takeRun bs k) :=
  hasCode_takeLE fun _ _ => hasCode_takeBytes fun _ rest => h _ rest

/-- What the decoder answers has the code at the head of the bytes (30_encoding R110, R111). -/
theorem decode_hasCode (op : Byte) (bs : List Byte) : HasCode op (decode (op :: bs)) := by
  rw [decode]
  split
  next hc => exact hasCode_ok hc
  next hc =>
    refine hasCode_takeByte fun n _ => hasCode_takeLE fun _ _ => hasCode_takeBytes fun _ _ => ?_
    split
    · exact hasCode_ok hc
    · exact hasCode_reject _ _ _
  next hc => exact hasCode_ok hc
  next hc => exact hasCode_takeBlock fun _ _ => hasCode_ok hc
  next hc => exact hasCode_ok hc
  next hc => exact hasCode_ok hc
  next hc => exact hasCode_ok hc
  next hc =>
    refine hasCode_takeByte fun n _ => hasCode_takeLE fun _ _ => ?_
    split
    · exact hasCode_ok hc
    · exact hasCode_reject _ _ _
  next hc => exact hasCode_takeLE fun _ _ => hasCode_takeLE fun _ _ => hasCode_ok hc
  next hc => exact hasCode_takeStage fun _ _ => hasCode_takeSample fun _ _ => hasCode_ok hc
  next hc => exact hasCode_takeStage fun _ _ => hasCode_takeRun fun _ _ => hasCode_ok hc
  next hc => exact hasCode_takeSample fun _ _ => hasCode_ok hc
  next hc => exact hasCode_takeRun fun _ _ => hasCode_ok hc
  next hc => exact hasCode_takeBlock fun _ _ => hasCode_ok hc
  next hc => exact hasCode_takeBlock fun _ _ => hasCode_ok hc
  next hc => exact hasCode_takeBlock fun _ _ => hasCode_ok hc
  next hc => exact hasCode_ok hc
  next hc => exact hasCode_takeLE fun _ _ => hasCode_ok hc
  next hc => exact hasCode_takeRun fun _ _ => hasCode_ok hc
  next hc => exact hasCode_ok hc
  next hc => exact hasCode_takeBlock fun _ _ => hasCode_ok hc
  next => exact hasCode_reject _ _ _

theorem portCommand_isHostCommand {bs rest : List Byte} {i : Instr}
    (h : portCommand bs = .ok i rest) : isHostCommand i = true := by
  unfold portCommand at h
  split at h
  · cases h
  · next op tl =>
    split_ifs at h with hop
    rw [isHostCommand, decode_hasCode op tl i rest h]
    exact decide_eq_true hop

end Sys2Proof.Proofs

/-! A run in progress (spec/10_state.md R29, R33 to R40): its configuration, the bound of each buffer, and how PUSH
keeps them. -/

namespace Sys2Proof.Proofs

open Sys2Proof.Machine Sys2Proof.Laws

theorem settingsOf_pkt {r : CfgRegs} {c : Settings} (h : settingsOf r = some c) :
    r.pkt = some c.pkt := by
  unfold settingsOf at h
  split at h
  · next hpkt _ _ _ _ => cases h; exact hpkt
  · cases h

theorem checkBeforeAddr_two_le_pkt {p : Params} {c : Settings} (h : checkBeforeAddr p c = none) :
    2 ≤ c.pkt := by
  unfold checkBeforeAddr at h
  split_ifs at h with _ _ hpkt
  exact Nat.le_of_not_lt fun hlt => hpkt (.inl hlt)

theorem bpsOf_pos (enc : BitVec 8) : 0 < bpsOf enc := by
  unfold bpsOf
  split <;> decide

theorem loadDerived_loadDerived (c : Settings) (s : State) :
    loadDerived c (loadDerived c s) = loadDerived c s := by
  by_cases hint : rateIntOf (fsOutOf c.rate) = true <;> simp [loadDerived, hint]

section

variable {c : Settings} {s t : State}

theorem configured_pktValue (h : Configured c s) : s.pktValue = c.pkt := by
  obtain ⟨hwritten, -⟩ := h
  rw [State.pktValue, settingsOf_pkt hwritten, Option.getD_some]

theorem configured_der (h : Configured c s) : (loadDerived c s).der = s.der := by
  obtain ⟨-, -, -, -, hloaded⟩ := h
  rw [hloaded]

theorem configured_nco (h : Configured c s) : (loadDerived c s).nco = s.nco := by
  obtain ⟨-, -, -, -, hloaded⟩ := h
  rw [hloaded]

theorem configured_bps (h : Configured c s) : s.der.bps = bpsOf c.enc :=
  congrArg Derived.bps (configured_der h).symm

theorem configured_ndest (h : Configured c s) : s.der.ndest = c.ports.length :=
  congrArg Derived.ndest (configured_der h).symm

/-- The configuration rests on what START freezes, and not on the oscillator's phase. -/
theorem configured_of_frozen (h : Configured c s) (hcfg : t.cfg = s.cfg) (hder : t.der = s.der)
    (hstep : t.nco.step = s.nco.step) (hbypass : t.nco.bypass = s.nco.bypass)
    (hparams : t.params = s.params) : Configured c t := by
  have hd : (loadDerived c t).der = t.der := by simpa [loadDerived, hder] using configured_der h
  have hn : (loadDerived c t).nco = t.nco := by
    have hs : numPhaseStep s.params (shiftHzOf c.shiftKhz) c.rate = s.nco.step :=
      congrArg Nco.step (configured_nco h)
    have hb : bypassOf (shiftHzOf c.shiftKhz) = s.nco.bypass :=
      congrArg Nco.bypass (configured_nco h)
    simp only [loadDerived, hparams, hs, hb, ← hstep, ← hbypass]
  obtain ⟨hwritten, hbefore, hafter, hfinite, -⟩ := h
  refine ⟨by rwa [hcfg], by rwa [hparams], hafter, by rwa [hparams], ?_⟩
  calc loadDerived c t = { t with der := (loadDerived c t).der, nco := (loadDerived c t).nco } := rfl
    _ = t := by rw [hd, hn]

end

/-- CARRY.SPLIT keeps less than one sample (43_sample_converter R190). -/
theorem carrySplit_carry_lt (data : List Byte) {s : State} (h : 0 < s.der.bps) :
    (carrySplit data s).2.carry.length < s.der.bps := by
  rw [carrySplit_eq, List.length_drop, ← Nat.mod_eq_sub_div_mul]
  exact Nat.mod_lt _ h

theorem pushThrough_carry {data : List Byte} {s t : State} {ys : List Sample}
    (h : pushThrough data s = .ok ys t) : t.carry = (carrySplit data s).2.carry := by
  obtain ⟨x0, x1, y1, y2, rfl⟩ := pushThrough_eq_ok h
  simp only [decRun_state, setDec_carry]
  rw [(ncoRun_frame x0 _).1, setPhase_carry]

theorem flushFrame_dfail_length (n : Nat) {s : State} (h : s.der.ndest ≤ s.dfail.length) :
    (flushFrame n s).dfail.length = s.dfail.length := by
  rw [flushFrame_eq]
  simpa using deliverFrom_dfail_length (d := 0) (s := tsAnchor { s with acc := s.acc.drop n })
    (by simpa using h)

theorem flushFrame_anchorHeld (n : Nat) {s : State} (h : AnchorHeld s) :
    AnchorHeld (flushFrame n s) := by
  have hdropped : AnchorHeld { s with acc := s.acc.drop n } := h
  have hheld := (tsAnchor_held hdropped).2
  rw [flushFrame_eq, deliverFrom_frame]
  exact hheld

theorem flowing_pushThrough {c : Settings} {data : List Byte} {s t : State} {ys : List Sample}
    (h : Flowing c s) (hpush : pushThrough data s = .ok ys t) : Flowing c t := by
  obtain ⟨hrun, hconf, hstages, -, hcnt, hdfail, hanch⟩ := h
  have hframe := pushThrough_frame hpush
  have hbps := configured_bps hconf
  have hcarry : t.carry.length < bpsOf c.enc := by
    rw [pushThrough_carry hpush, ← hbps]
    exact carrySplit_carry_lt data (hbps ▸ bpsOf_pos c.enc)
  refine ⟨?_, ?_, pushThrough_stagesShaped hstages hpush, hcarry, ?_, ?_, ?_⟩
  · rw [hframe]; exact hrun
  · exact configured_of_frozen hconf (by rw [hframe]) (by rw [hframe]) (by rw [hframe])
      (by rw [hframe]) (by rw [hframe])
  · rw [hframe]; exact hcnt
  · rw [hframe]; exact hdfail
  · rw [hframe]; exact hanch

theorem flowing_frmAccum {c : Settings} {s : State} (run : List Sample) (h : Flowing c s) :
    Flowing c (frmAccum run s) := by
  obtain ⟨hrun, hconf, hstages, hcarry, hcnt, hdfail, hanch⟩ := h
  exact ⟨hrun, configured_of_frozen hconf rfl rfl rfl rfl rfl, hstages, hcarry, hcnt, hdfail, hanch⟩

/-- A flush of one payload keeps the run but for the queue: the counter moves by the payload. -/
theorem flowing_flushFrame {c : Settings} {s : State} (h : Flowing c s) :
    Flowing c (flushFrame (s.pktValue - 1) s) := by
  obtain ⟨hrun, hconf, hstages, hcarry, hcnt, hdfail, hanch⟩ := h
  have hframe := flushFrame_frame (s.pktValue - 1) s
  refine ⟨?_, ?_, flushFrame_stagesShaped _ hstages, ?_, ?_, ?_, flushFrame_anchorHeld _ hanch⟩
  · rw [hframe]; exact hrun
  · exact configured_of_frozen hconf (by rw [hframe]) (by rw [hframe]) (by rw [hframe])
      (by rw [hframe]) (by rw [hframe])
  · rw [hframe]; exact hcarry
  · rw [flushFrame_cnt, configured_pktValue hconf, Nat.add_mod_right]
    exact hcnt
  · rw [flushFrame_dfail_length _ (by rw [configured_ndest hconf, hdfail])]
    exact hdfail

theorem flowing_flushLoop {c : Settings} {n : Nat} {s t : State} (h : Flowing c s)
    (hloop : flushLoop n s = .ok () t) : Flowing c t := by
  induction n generalizing s with
  | zero =>
    rw [flushLoop] at hloop
    split at hloop <;> cases hloop
    exact h
  | succ n ih =>
    by_cases hq : s.acc.length < s.pktValue - 1
    · rw [flushLoop_done hq] at hloop
      cases hloop
      exact h
    · rw [flushLoop_turn (by omega)] at hloop
      exact ih (flowing_flushFrame h) hloop

/-- PUSH keeps a run in progress: the flush loop leaves less than a payload in the queue (46 R255, 45 R233). -/
theorem running_pushData {c : Settings} {data : List Byte} {s t : State} (h : Running c s)
    (hpush : pushData data s = .ok () t) : Running c t := by
  obtain ⟨ys, u, hthrough, hloop⟩ := bind_eq_ok.mp hpush
  have hu : Flowing c (frmAccum ys u) := flowing_frmAccum ys (flowing_pushThrough h.toFlowing hthrough)
  refine ⟨flowing_flushLoop hu hloop, ?_⟩
  rw [← configured_pktValue hu.configured]
  exact flushLoop_drains hloop

/-- START begins a run: every buffer empty, one counter per destination (46 R253). -/
theorem running_of_startBuilt {c : Settings} {s t : State} (hadmits : Admits c s)
    (h : StartBuilt c s t) : Running c t := by
  obtain ⟨host, rfl⟩ := h
  obtain ⟨hwritten, hbefore, hafter, hfinite⟩ := hadmits
  have hpkt := checkBeforeAddr_two_le_pkt hbefore
  have hconf : Configured c (loadDerived c { s with host := host }) :=
    ⟨hwritten, hbefore, hafter, hfinite, loadDerived_loadDerived c _⟩
  exact
    { running := rfl
      configured := configured_of_frozen hconf rfl rfl rfl rfl rfl
      stages := buildPipeline_stagesShaped c _
      carry := bpsOf_pos c.enc
      counter := Nat.zero_mod _
      counters := List.length_replicate
      anchor := fun hvalid => by cases hvalid
      queue := Nat.sub_pos_of_lt hpkt }

end Sys2Proof.Proofs

/-! The invariant of the block driven from its command port (spec/10_state.md R29 to R42, R49): RESET meets it and
every step keeps it. -/

namespace Sys2Proof.Proofs

open Sys2Proof.Machine Sys2Proof.Laws

/-- The invariant does not speak of the response, the bytes waiting on the port, or the host's side. -/
theorem inv_outside {s : State} (h : Inv s) (resp : Resp) (port : List Byte) (host : HostSide) :
    Inv { s with resp := resp, port := port, host := host } := by
  obtain ⟨hbench, hlife, htaken, hanch, hstages, hrunning⟩ := h
  refine ⟨hbench, hlife, htaken, hanch, hstages, fun hrun => ?_⟩
  obtain ⟨c, ⟨hr, hconf, hst, hcarry, hcnt, hdfail, ha⟩, hqueue⟩ := hrunning hrun
  exact ⟨c, ⟨hr, configured_of_frozen hconf rfl rfl rfl rfl rfl, hst, hcarry, hcnt, hdfail, ha⟩,
    hqueue⟩

theorem inv_respond {s : State} (h : Inv s) (r : Resp) : Inv (s.respond r) :=
  inv_outside h r s.port s.host

theorem inv_refuse {s : State} (h : Inv s) (w : Reject) : Inv (s.refuse w) :=
  inv_respond h (.refused w)

theorem inv_setWaiting {s : State} (h : Inv s) (w : Bool) : Inv (s.setWaiting w) :=
  inv_outside h s.resp s.port { s.host with waiting := w }

/-- While UNCONFIGURED or RUNNING no status and no cause is set. -/
theorem lifecycle_clear {s : State} (h : LifecycleAgrees s)
    (hrun : s.run = .unconfigured ∨ s.run = .running) :
    s.status = .none ∧ s.cause = 0 ∧ s.causeInfo = 0 := by
  unfold LifecycleAgrees at h
  obtain hrun | hrun := hrun <;> simpa [hrun] using h

theorem lifecycle_endRun {s : State} {status : ExitStatus} (h : LifecycleAgrees s)
    (hrun : s.run = .running) (hstatus : status = .ok ∨ status = s.params.statusCancelled) :
    LifecycleAgrees (endRun status s) := by
  obtain ⟨-, hcause, hinfo⟩ := lifecycle_clear h (.inr hrun)
  exact ⟨hstatus, hcause, hinfo⟩

/-- Ending a run meets the invariant, also where the termination signal ends it. -/
theorem inv_endRun {s : State} {status : ExitStatus} (hbench : s.bench = [])
    (hlife : LifecycleAgrees s) (hanch : AnchorHeld s) (hstages : StagesShaped s)
    (hrun : s.run = .running) (hstatus : status = .ok ∨ status = s.params.statusCancelled) :
    Inv (endRun status s) :=
  ⟨hbench, lifecycle_endRun hlife hrun hstatus, fun _ => rfl, hanch, hstages, fun h => by cases h⟩

/-- A fatal error meets the invariant where status and cause are those 60_exceptions R280 and R281 give. -/
theorem inv_takeError {s : State} {e : Err} {code : Nat} (hbench : s.bench = [])
    (htaken : TakenEndsTheRun s) (hanch : AnchorHeld s) (hstages : StagesShaped s)
    (hrun : s.run ≠ .done) (hlife : LifecycleAgrees (takeError e code s)) :
    Inv (takeError e code s) :=
  ⟨hbench, hlife, fun ht => absurd (htaken ht) hrun, hanch, hstages, fun hr => by cases hr⟩

theorem lifecycle_takeError_config {s : State} {code : Nat} (h : 1 ≤ code ∧ code ≤ 8) :
    LifecycleAgrees (takeError .config code s) := by
  have hcode : (BitVec.ofNat 64 code).toNat = code := Nat.mod_eq_of_lt (by omega)
  exact .inl ⟨rfl, rfl, by simpa [hcode] using h⟩

theorem lifecycle_takeError_alignment (s : State) (n : Nat) :
    LifecycleAgrees (takeError .alignment n s) := .inr (.inl ⟨rfl, rfl⟩)

theorem lifecycle_takeError_runtime (s : State) : LifecycleAgrees (takeError .runtime 1 s) :=
  .inr (.inr ⟨rfl, rfl, rfl⟩)

theorem inv_afterReset {s : State} (h : s.bench = []) : Inv s.afterReset :=
  ⟨h, ⟨rfl, rfl, rfl⟩, fun ht => (by cases ht), fun hv => (by cases hv), afterReset_stagesShaped s,
    fun hr => by cases hr⟩

/-- CFGWR is accepted outside a run alone, where the registers are free. -/
theorem inv_cfgWritten {s : State} (h : Inv s) (hrun : s.run = .unconfigured) (cfg : CfgRegs) :
    Inv { s with cfg := cfg } := by
  obtain ⟨hbench, hlife, htaken, hanch, hstages, -⟩ := h
  exact ⟨hbench, hlife, htaken, hanch, hstages, fun hr => absurd (hrun.symm.trans hr) (by decide)⟩

theorem lifecycle_startFailed {e : Err} {code : Nat} (u : State)
    (h : e = .config ∧ 1 ≤ code ∧ code ≤ 8 ∨ e = .runtime ∧ code = 1) :
    LifecycleAgrees (takeError e code u) := by
  obtain ⟨rfl, hcode⟩ | ⟨rfl, rfl⟩ := h
  · exact lifecycle_takeError_config hcode
  · exact lifecycle_takeError_runtime u

theorem inv_startFailed {s t : State} (h : Inv s) (hrun : s.run = .unconfigured)
    (hfailed : StartFailed s t) : Inv t := by
  obtain ⟨e, code, u, rfl, hcode, hu⟩ := hfailed
  obtain ⟨hbench, -, htaken, hanch, hstages, -⟩ := h
  have hlife := lifecycle_startFailed u hcode
  have hnot : s.run ≠ .done := by simp [hrun]
  rw [hu] at hlife ⊢
  exact inv_takeError hbench htaken hanch hstages hnot hlife

theorem inv_startBuilt {c : Settings} {s t : State} (h : Inv s) (hrun : s.run = .unconfigured)
    (hadmits : Admits c s) (hbuilt : StartBuilt c s t) : Inv t := by
  have hrunning := running_of_startBuilt hadmits hbuilt
  obtain ⟨hbench, hlife, htaken, -⟩ := h
  have hclear := lifecycle_clear hlife (.inl hrun)
  refine ⟨?_, ?_, ?_, hrunning.anchor, hrunning.stages, fun _ => ⟨c, hrunning⟩⟩
  all_goals obtain ⟨host, rfl⟩ := hbuilt
  · exact hbench
  · exact hclear
  · exact fun ht => absurd (hrun.symm.trans (htaken ht)) (by decide)

/-- PUSH keeps the invariant where it answers: the registers outside the datapath are as they were. -/
theorem inv_pushData {data : List Byte} {s t : State} (h : Inv s) (hrun : s.run = .running)
    (hpush : pushData data s = .ok () t) : Inv t := by
  obtain ⟨hbench, hlife, htaken, -, -, hrunning⟩ := h
  obtain ⟨c, hc⟩ := hrunning hrun
  have ht := running_pushData hc hpush
  refine ⟨?_, ?_, ?_, ht.anchor, ht.stages, fun _ => ⟨c, ht⟩⟩
  all_goals rw [pushData_frame hpush]
  · exact hbench
  · exact hlife
  · exact htaken

/-- REANCHOR lets the anchor go and keeps the run. -/
theorem inv_reanchor {s : State} (h : Inv s) :
    Inv { s with anch := { s.anch with valid := false } } := by
  obtain ⟨hbench, hlife, htaken, -, hstages, hrunning⟩ := h
  have hanch : AnchorHeld { s with anch := { s.anch with valid := false } } := fun hv => by cases hv
  refine ⟨hbench, hlife, htaken, hanch, hstages, fun hrun => ?_⟩
  obtain ⟨c, ⟨hr, hconf, hst, hcarry, hcnt, hdfail, -⟩, hqueue⟩ := hrunning hrun
  exact ⟨c, ⟨hr, configured_of_frozen hconf rfl rfl rfl rfl rfl, hst, hcarry, hcnt, hdfail, hanch⟩,
    hqueue⟩

theorem exec_push_inv {data : List Byte} {s t : State} (h : Inv s)
    (hexec : exec (.push data) s = .next t) : Inv t := by
  obtain ⟨-, rfl⟩ | ⟨u, hrun, hok, rfl⟩ | ⟨n, hrun, rfl⟩ := exec_push_next hexec
  · exact inv_refuse h _
  · exact inv_respond (inv_pushData h hrun hok) _
  · obtain ⟨hbench, -, htaken, hanch, hstages, -⟩ := h
    have hnot : s.run ≠ .done := by simp [hrun]
    exact inv_takeError hbench htaken hanch hstages hnot (lifecycle_takeError_alignment _ n)

/-- Every host command keeps the invariant. -/
theorem hostCommand_keeps_inv {i : Instr} {s t : State} (hi : isHostCommand i = true) (h : Inv s)
    (hexec : exec i s = .next t) : Inv t := by
  cases i with
  | reset => cases hexec; exact inv_respond (inv_afterReset h.1) _
  | cfgwr reg value =>
    obtain ⟨hrun, hexec⟩ | ⟨-, rfl⟩ := acceptedIn_eq_next.mp hexec
    · cases hexec
      exact inv_respond (inv_cfgWritten h hrun (cfgWrite reg value s.cfg)) _
    · exact inv_refuse h _
  | start =>
    obtain ⟨-, rfl⟩ | ⟨hrun, hfailed⟩ | ⟨c, hrun, hadmits, hbuilt⟩ := exec_start_next hexec
    · exact inv_refuse h _
    · exact inv_startFailed h hrun hfailed
    · exact inv_startBuilt h hrun hadmits hbuilt
  | push data => exact exec_push_inv h hexec
  | eos =>
    obtain ⟨hrun, hexec⟩ | ⟨-, rfl⟩ := acceptedIn_eq_next.mp hexec
    · cases hexec
      obtain ⟨hbench, hlife, -, hanch, hstages, -⟩ := h
      exact inv_respond (inv_endRun hbench hlife hanch hstages hrun (.inl rfl)) _
    · exact inv_refuse h _
  | cancel =>
    obtain ⟨hrun, hexec⟩ | ⟨-, rfl⟩ := acceptedIn_eq_next.mp hexec
    · cases hexec
      obtain ⟨hbench, hlife, -, hanch, hstages, -⟩ := h
      exact inv_respond (inv_endRun hbench hlife hanch hstages hrun (.inr rfl)) _
    · exact inv_refuse h _
  | reanchor =>
    obtain ⟨-, hexec⟩ | ⟨-, rfl⟩ := acceptedIn_eq_next.mp hexec
    · cases hexec; exact inv_respond (inv_reanchor h) _
    · exact inv_refuse h _
  | statrd reg idx => cases hexec; exact inv_respond h _
  | _ => cases hi

/-- The termination signal taken as CANCEL keeps the invariant: it ends the run it is taken in, and elsewhere it is
refused and cleared (60_exceptions R286). -/
theorem signal_keeps_inv {s t : State} (h : Inv s)
    (hexec : exec .cancel s.settleTermination = .next t) : Inv t := by
  obtain ⟨hbench, hlife, -, hanch, hstages, -⟩ := h
  obtain ⟨hrun, hexec⟩ | ⟨hrun, rfl⟩ := acceptedIn_eq_next.mp hexec
  · cases hexec
    exact inv_respond (inv_endRun (s := s.settleTermination) hbench hlife hanch hstages hrun (.inr rfl)) _
  · have hnot : s.run ≠ .running := hrun
    have hclear : TakenEndsTheRun s.settleTermination := by
      intro ht
      simp [hnot] at ht
    have hinv : Inv s.settleTermination :=
      ⟨hbench, hlife, hclear, hanch, hstages, fun hr => absurd hr hnot⟩
    exact inv_refuse hinv _

/-- With nothing on the bench what is fetched comes from the command port. -/
theorem fetch_run_hostCommand {i : Instr} {s s' : State} (hbench : s.bench = [])
    (h : fetch s = .run i s') : isHostCommand i = true ∧ s' = { s with port := s'.port } := by
  obtain ⟨-, -, hf⟩ | ⟨-, -, -, hf⟩ | ⟨-, hf⟩ := fetch_cases s
  · simp [hf] at h
  · simp [hf] at h
  · rw [hf, nextOperation, if_pos hbench] at h
    split at h <;> cases h
    next hport => exact ⟨portCommand_isHostCommand hport, rfl⟩

theorem fetch_refuse_port {w : Reject} {s s' : State} (hbench : s.bench = [])
    (h : fetch s = .refuse w s') : s' = { s with port := s'.port } := by
  obtain ⟨-, -, hf⟩ | ⟨-, -, -, hf⟩ | ⟨-, hf⟩ := fetch_cases s
  · simp [hf] at h
  · simp [hf] at h
  · rw [hf, nextOperation, if_pos hbench] at h
    split at h <;> cases h
    rfl

/-- Taking bytes off the command port keeps the invariant. -/
theorem inv_takePort {s s' : State} (h : Inv s) (hs' : s' = { s with port := s'.port }) : Inv s' := by
  rw [hs']
  exact inv_outside h s.resp s'.port s.host

/-- Settles O52: with nothing on the bench a step is waiting, a signal, a refusal or one host command, and each of
these keeps the invariant. -/
theorem stepKeepsTheInvariant : Obligations.StepKeepsTheInvariant := by
  unfold Obligations.StepKeepsTheInvariant
  intro s t h hstep
  obtain ⟨-, rfl⟩ | ⟨-, -, hreset⟩ | ⟨-, -, -, hsignal⟩ | ⟨w, s', hfetch, rfl⟩ |
    ⟨i, s', hfetch, hexec, -⟩ | ⟨i, s', u, -, -, -, rfl⟩ := step_cases hstep
  · exact h
  · exact hostCommand_keeps_inv rfl h hreset
  · exact signal_keeps_inv h hsignal
  · exact inv_refuse (inv_takePort h (fetch_refuse_port h.1 hfetch)) w
  · obtain ⟨hhost, hs'⟩ := fetch_run_hostCommand h.1 hfetch
    exact hostCommand_keeps_inv hhost (inv_setWaiting (inv_takePort h hs') false) hexec
  · exact inv_setWaiting h true

/-- Settles O53: the reset state is what RESET leaves of itself. -/
theorem resetMeetsTheInvariant : Obligations.ResetMeetsTheInvariant :=
  inv_afterReset (s := State.reset) rfl

end Sys2Proof.Proofs

/-! The circular history of a stage (spec/20_memory.md R62), read as a shift register: the sample held `j` inputs
ago. -/

namespace Sys2Proof.Proofs

open Sys2Proof.Machine Sys2Proof.Laws

/-- The sample a stage took `j` inputs ago, where its history holds one, at R62's index. -/
def heldAgo (d : Dec) (j : Nat) : Option Sample :=
  d.hist[(((d.cur : Int) - 1 - j) % (d.hist.length : Int)).toNat]?

theorem heldAgo_eq {d : Dec} {T : Nat} (h : d.hist.length = T) (j : Nat) :
    heldAgo d j = d.hist[(((d.cur : Int) - 1 - j) % (T : Int)).toNat]? := by
  rw [heldAgo, h]

theorem writtenRun_hist_length (k : Stage) (run : List Sample) (d : Dec) :
    (writtenRun k run d).hist.length = d.hist.length := by
  induction run generalizing d with
  | nil => rfl
  | cons x xs ih => simp [ih]

theorem decWrite_cur_lt (F : Nat) (x : Sample) {d : Dec} (h : d.cur < d.hist.length) :
    (decWrite F x d).cur < (decWrite F x d).hist.length := by
  simpa using Nat.mod_lt _ (Nat.zero_lt_of_lt h)

theorem writtenRun_cur_lt (k : Stage) (run : List Sample) {d : Dec} (h : d.cur < d.hist.length) :
    (writtenRun k run d).cur < (writtenRun k run d).hist.length := by
  induction run generalizing d with
  | nil => exact h
  | cons x xs ih => exact ih (decWrite_cur_lt _ x h)

/-- Counted back from the advanced cursor, an index is one input further away. -/
theorem advancedCursor_sub_emod (c j T : Nat) :
    (((c + 1) % T : Nat) - 1 - (j : Int)) % (T : Int) = ((c : Int) - j) % T := by
  rw [Int.natCast_mod, sub_sub, Int.emod_sub_emod]
  push_cast
  ring_nf

/-- Fewer than `T` steps back from the cursor never lead to the cursor itself. -/
theorem cursor_ne_sub_emod {c j T : Nat} (hc : c < T) (hj : j + 1 < T) :
    c ≠ (((c : Int) - 1 - j) % (T : Int)).toNat := by
  intro heq
  have hnonneg : 0 ≤ ((c : Int) - 1 - j) % T := Int.emod_nonneg _ (by omega)
  have hmod : ((c : Int) - 1 - j) ≡ c [ZMOD T] := by
    rw [Int.ModEq, Int.emod_eq_of_lt (a := (c : Int)) (by omega) (by omega)]
    omega
  have hle : (T : Int) ≤ c - (c - 1 - j) := Int.le_of_dvd (by omega) hmod.dvd
  omega

/-- The newest sample is the one just written (41 R151). -/
theorem heldAgo_decWrite_zero (F : Nat) (x : Sample) {d : Dec} (h : d.cur < d.hist.length) :
    heldAgo (decWrite F x d) 0 = some x := by
  have hcur : ((d.cur : Int) - (0 : Nat)) % d.hist.length = d.cur := by
    rw [Nat.cast_zero, sub_zero]
    exact Int.emod_eq_of_lt (by omega) (by omega)
  rw [heldAgo, decWrite_cur, decWrite_hist, List.length_set, advancedCursor_sub_emod, hcur,
    Int.toNat_natCast, List.getElem?_set_self h]

/-- A write makes every other sample still held one input older. -/
theorem heldAgo_decWrite_succ (F : Nat) (x : Sample) {d : Dec} {j : Nat} (h : d.cur < d.hist.length)
    (hj : j + 1 < d.hist.length) : heldAgo (decWrite F x d) (j + 1) = heldAgo d j := by
  have hindex : (d.cur : Int) - (j + 1 : Nat) = d.cur - 1 - j := by omega
  rw [heldAgo, decWrite_cur, decWrite_hist, List.length_set, advancedCursor_sub_emod, hindex,
    List.getElem?_set_ne (cursor_ne_sub_emod h hj), heldAgo]

/-- After a run the newest samples held are the run's own, and behind them what was held before, as much older as the
run is long. -/
theorem heldAgo_writtenRun (k : Stage) (run : List Sample) {d : Dec} {j : Nat}
    (h : d.cur < d.hist.length) (hj : j < d.hist.length) :
    heldAgo (writtenRun k run d) j =
      if j < run.length then run.reverse[j]? else heldAgo d (j - run.length) := by
  induction run generalizing d with
  | nil => simp
  | cons x xs ih =>
    rw [writtenRun_cons, ih (decWrite_cur_lt _ x h) (by simpa using hj), List.reverse_cons,
      List.length_cons]
    by_cases hxs : j < xs.length
    · rw [if_pos hxs, if_pos (by omega), List.getElem?_append_left (by simpa using hxs)]
    · obtain ⟨i, rfl⟩ := Nat.exists_eq_add_of_le (Nat.le_of_not_lt hxs)
      rw [if_neg hxs, Nat.add_sub_cancel_left]
      cases i with
      | zero =>
        rw [heldAgo_decWrite_zero _ x h, if_pos (by omega), Nat.add_zero, ← List.length_reverse,
          List.getElem?_concat_length]
      | succ i =>
        rw [heldAgo_decWrite_succ _ x h (by omega), if_neg (by omega)]
        congr 1
        omega

/-- A history of zero samples holds a zero sample at every age. -/
theorem heldAgo_of_hist_zero {d : Dec} {T j : Nat} (hT : 0 < T)
    (h : d.hist = List.replicate T Sample.zero) : heldAgo d j = some Sample.zero := by
  have hpos : 0 ≤ ((d.cur : Int) - 1 - j) % T := Int.emod_nonneg _ (by omega)
  have hlt : ((d.cur : Int) - 1 - j) % T < T := Int.emod_lt_of_pos _ (by omega)
  rw [heldAgo, h, List.length_replicate, List.getElem?_replicate_of_lt (by omega)]

theorem exec_decRun_dec {k : Stage} {run : List Sample} {s t : State}
    (h : exec (.decRun k run) s = .next t) : t.dec k = writtenRun k run (s.dec k) := by
  rw [handBack_eq_next.mp h, respond_dec, decRun_state, setDec_dec_self]

/-- Settles O4, by induction on the run: a write puts its sample at age 0 and makes every other one input older. -/
theorem historyIsAShiftRegister : Obligations.HistoryIsAShiftRegister := by
  unfold Obligations.HistoryIsAShiftRegister
  intro k run s t T hT hcur h
  rw [exec_decRun_dec h]
  have hlen : (writtenRun k run (s.dec k)).hist.length = T :=
    (writtenRun_hist_length k run (s.dec k)).trans hT
  rw [← hT] at hcur
  refine ⟨hlen, hlen ▸ writtenRun_cur_lt k run hcur, fun j hj => ?_, fun hzero j hj => ?_⟩
  · rw [← heldAgo_eq hlen, ← heldAgo_eq hT, heldAgo_writtenRun k run hcur (by omega)]
  · rw [← heldAgo_eq hlen, heldAgo_writtenRun k run hcur (by omega),
      heldAgo_of_hist_zero (Nat.zero_lt_of_lt hj) hzero, List.getElem?_append, List.length_reverse,
      List.getElem?_replicate_of_lt (by omega)]

end Sys2Proof.Proofs

/-! What START freezes (spec/20_memory.md R80): the operations of a run write the datapath's moving state alone, the
set-up commands are refused in it, and nothing writes the parameters (70_reset_and_hazards R323). -/

namespace Sys2Proof.Proofs

open Sys2Proof.Machine Sys2Proof.Laws

/-- The parameters and what START freezes are the same in both states. -/
def FrozenKept (s t : State) : Prop := t.params = s.params ∧ SameFrozen s t

theorem FrozenKept.refl (s : State) : FrozenKept s s :=
  ⟨rfl, rfl, rfl, rfl, rfl, fun _ => rfl⟩

theorem FrozenKept.trans {s t u : State} (hst : FrozenKept s t) (htu : FrozenKept t u) :
    FrozenKept s u := by
  obtain ⟨hp, hc, hd, hs, hb, hk⟩ := hst
  obtain ⟨hp', hc', hd', hs', hb', hk'⟩ := htu
  exact ⟨hp'.trans hp, hc'.trans hc, hd'.trans hd, hs'.trans hs, hb'.trans hb,
    fun k => (hk' k).trans (hk k)⟩

theorem setDec_frozenKept {s : State} {k : Stage} {d : Dec} (h : d.coef = (s.dec k).coef) :
    FrozenKept s (s.setDec k d) := by
  refine ⟨by simp, by simp, by simp, by simp, by simp, fun k' => ?_⟩
  by_cases hk : k' = k
  · rw [hk, setDec_dec_self, h]
  · rw [setDec_dec_other s d hk]

theorem decStep_frozenKept (k : Stage) (x : Sample) (s : State) :
    FrozenKept s (decStep k x s).2 := by
  rw [decStep_state]
  exact setDec_frozenKept (decWrite_coef _ _ _)

theorem decRun_frozenKept (k : Stage) (run : List Sample) (s : State) :
    FrozenKept s (decRun k run s).2 := by
  rw [decRun_state]
  exact setDec_frozenKept (writtenRun_coef _ _ _)

theorem ncoStep_frozenKept (x : Sample) (s : State) : FrozenKept s (ncoStep x s).2 := by
  rw [ncoStep_frame]
  exact .refl s

theorem ncoRun_frozenKept (run : List Sample) (s : State) : FrozenKept s (ncoRun run s).2 := by
  rw [(ncoRun_frame run s).1]
  exact .refl s

theorem tsAnchor_frozenKept (s : State) : FrozenKept s (tsAnchor s) := by
  rw [tsAnchor_frame]
  exact .refl s

theorem frmSend_frozenKept (bytes : List Byte) (s : State) : FrozenKept s (frmSend bytes s) := by
  rw [frmSend, deliverFrom_frame]
  exact .refl s

theorem flushFrame_frozenKept (n : Nat) (s : State) : FrozenKept s (flushFrame n s) := by
  rw [flushFrame_frame]
  exact .refl s

theorem pushThrough_frozenKept {data : List Byte} {s t : State} {ys : List Sample}
    (h : pushThrough data s = .ok ys t) : FrozenKept s t := by
  obtain ⟨x0, x1, y1, y2, rfl⟩ := pushThrough_eq_ok h
  have hcarry : FrozenKept s (carrySplit data s).2 := .refl s
  exact hcarry.trans <| (ncoRun_frozenKept _ _).trans <| (decRun_frozenKept _ _ _).trans <|
    (decRun_frozenKept _ _ _).trans <| decRun_frozenKept _ _ _

theorem pushData_frozenKept {data : List Byte} {s t : State} (h : pushData data s = .ok () t) :
    FrozenKept s t := by
  obtain ⟨ys, u, hthrough, hflush⟩ := bind_eq_ok.mp h
  have hu : FrozenKept s u := pushThrough_frozenKept hthrough
  rw [flushLoop_frame hflush]
  exact hu

theorem exec_push_frozenKept {data : List Byte} {s t : State} (h : exec (.push data) s = .next t) :
    FrozenKept s t := by
  obtain ⟨-, rfl⟩ | ⟨u, -, hok, rfl⟩ | ⟨n, -, rfl⟩ := exec_push_next h
  · exact .refl s
  · have hu : FrozenKept s u := pushData_frozenKept hok
    exact hu
  · exact .refl s

/-- The commands that write what START freezes, or clear it: RESET, CFGWR and START. -/
def SetsUp : Instr → Prop
  | .reset => True
  | .cfgwr _ _ => True
  | .start => True
  | _ => False

/-- Every other operation keeps it, in every lifecycle state. -/
theorem exec_frozenKept {i : Instr} {s t : State} (hi : ¬ SetsUp i) (h : exec i s = .next t) :
    FrozenKept s t := by
  cases i with
  | reset => exact absurd trivial hi
  | cfgwr reg value => exact absurd trivial hi
  | start => exact absurd trivial hi
  | push data => exact exec_push_frozenKept h
  | eos => obtain rfl | rfl := acceptedIn_next_cases h <;> exact .refl s
  | cancel => obtain rfl | rfl := acceptedIn_next_cases h <;> exact .refl s
  | reanchor => obtain rfl | rfl := acceptedIn_next_cases h <;> exact .refl s
  | statrd reg idx => cases h; exact .refl s
  | lpfDesign taps cutoff => cases h; exact .refl s
  | decStep k x => cases h; exact decStep_frozenKept k x s
  | decRun k run => cases h; exact decRun_frozenKept k run s
  | ncoStep x => cases h; exact ncoStep_frozenKept x s
  | ncoRun run => cases h; exact ncoRun_frozenKept run s
  | carrySplit chunk => cases h; exact .refl s
  | convS16 bytes => obtain rfl | rfl := aligned_outcome_next h <;> exact .refl s
  | convF32 bytes => obtain rfl | rfl := aligned_outcome_next h <;> exact .refl s
  | tsAnchor => cases h; exact tsAnchor_frozenKept s
  | tsHeader n => cases h; exact tsAnchor_frozenKept s
  | frmAccum run => cases h; exact .refl s
  | frmFlush => rw [exec_frmFlush_next h]; exact flushFrame_frozenKept _ s
  | frmSend bytes => cases h; exact frmSend_frozenKept bytes s

theorem exec_start_params {s t : State} (h : exec .start s = .next t) : t.params = s.params := by
  obtain ⟨-, rfl⟩ | ⟨-, e, code, u, rfl, -, hu⟩ | ⟨c, -, -, host, rfl⟩ := exec_start_next h
  · rfl
  · rw [hu]
    rfl
  · rfl

theorem exec_params {i : Instr} {s t : State} (h : exec i s = .next t) : t.params = s.params := by
  by_cases hi : SetsUp i
  · cases i with
    | reset => cases h; rfl
    | cfgwr reg value => obtain rfl | rfl := acceptedIn_next_cases h <;> rfl
    | start => exact exec_start_params h
    | _ => exact hi.elim
  · exact (exec_frozenKept hi h).1

/-- Outside UNCONFIGURED, RESET is the one set-up command accepted (46 R250). -/
theorem exec_setsUp_refused {i : Instr} {s : State} (hi : SetsUp i) (hreset : i ≠ .reset)
    (hrun : s.run ≠ .unconfigured) : exec i s = .next (s.refuse .wrongState) := by
  cases i with
  | reset => exact absurd rfl hreset
  | cfgwr reg value => exact acceptedIn_other hrun
  | start => exact acceptedIn_other hrun
  | _ => exact hi.elim

theorem exec_frozenKept_of_configured {i : Instr} {s t : State} (hreset : i ≠ .reset)
    (hrun : s.run ≠ .unconfigured) (h : exec i s = .next t) : FrozenKept s t := by
  by_cases hi : SetsUp i
  · rw [exec_setsUp_refused hi hreset hrun] at h
    cases h
    exact .refl s
  · exact exec_frozenKept hi h

/-- Settles O55: once the lifecycle has left UNCONFIGURED, CFGWR and START are refused, and the operations that set
nothing up keep what START froze. -/
theorem configurationIsFrozenByStart : Obligations.ConfigurationIsFrozenByStart := by
  unfold Obligations.ConfigurationIsFrozenByStart
  intro i s t h
  exact ⟨exec_params h, fun hrun hreset => (exec_frozenKept_of_configured hreset hrun h).2⟩

end Sys2Proof.Proofs

/-! The fields of an encoding (spec/30_encoding.md R110, R112), each read back as it was written: the little-endian
number, the sample, the register number, the stage byte. -/

namespace Sys2Proof.Proofs

open Sys2Proof.Machine Sys2Proof.Laws Sys2Proof.Laws.OpCode

theorem leNat_lt (bs : List Byte) : leNat bs < 256 ^ bs.length := by
  induction bs with
  | nil => decide
  | cons b bs ih =>
    have hb : b.toNat < 256 := b.isLt
    rw [leNat, List.length_cons, pow_succ]
    omega

theorem leNat_bytesLE {k n : Nat} (h : n < 256 ^ k) : leNat (bytesLE k n) = n := by
  induction k generalizing n with
  | zero => exact (Nat.lt_one_iff.mp h).symm
  | succ k ih =>
    have hdiv : n / 256 < 256 ^ k := Nat.div_lt_of_lt_mul (by rwa [← pow_succ'])
    rw [bytesLE, leNat, ih hdiv, BitVec.toNat_ofNat]
    omega

theorem bytesLE_leNat {bs : List Byte} {k : Nat} (h : bs.length = k) : bytesLE k (leNat bs) = bs := by
  subst h
  exact leNat_injective_of_length_eq (bytesLE_length _ _) (leNat_bytesLE (leNat_lt bs))

@[simp] theorem ofNat_leNat_bytesLE (w : W32) : BitVec.ofNat 32 (leNat (bytesLE 4 w.toNat)) = w := by
  rw [leNat_bytesLE w.isLt, BitVec.ofNat_toNat, BitVec.setWidth_eq]

theorem bytesLE_ofNat_leNat (b0 b1 b2 b3 : Byte) :
    bytesLE 4 (BitVec.ofNat 32 (leNat [b0, b1, b2, b3])).toNat = [b0, b1, b2, b3] := by
  have hlt : leNat [b0, b1, b2, b3] < 2 ^ 32 := by simpa using leNat_lt [b0, b1, b2, b3]
  rw [BitVec.toNat_ofNat, Nat.mod_eq_of_lt hlt]
  exact bytesLE_leNat rfl

theorem samplesLE_sampleBytesLE_append (x : Sample) (bs : List Byte) :
    samplesLE (sampleBytesLE x ++ bs) = x :: samplesLE bs := by
  have hwords : samplesLE (sampleBytesLE x ++ bs) =
      ⟨BitVec.ofNat 32 (leNat (bytesLE 4 x.re.toNat)), BitVec.ofNat 32 (leNat (bytesLE 4 x.im.toNat))⟩
        :: samplesLE bs := rfl
  rw [hwords, ofNat_leNat_bytesLE, ofNat_leNat_bytesLE]

/-- The samples of a run's bytes are the run. -/
@[simp] theorem samplesLE_flatMap (run : List Sample) : samplesLE (run.flatMap sampleBytesLE) = run := by
  induction run with
  | nil => rfl
  | cons x xs ih => rw [List.flatMap_cons, samplesLE_sampleBytesLE_append, ih]

/-- Bytes of whole samples are the bytes of their samples. -/
theorem flatMap_samplesLE {bs : List Byte} {n : Nat} (h : bs.length = 8 * n) :
    (samplesLE bs).flatMap sampleBytesLE = bs := by
  induction bs using samplesLE.induct generalizing n with
  | case1 a0 a1 a2 a3 b0 b1 b2 b3 rest ih =>
    have hrest : rest.length = 8 * (n - 1) := by
      simp only [List.length_cons] at h
      omega
    rw [samplesLE, List.flatMap_cons, ih hrest, sampleBytesLE, bytesLE_ofNat_leNat,
      bytesLE_ofNat_leNat]
    rfl
  | case2 bs hshort =>
    rcases bs with _ | ⟨a0, _ | ⟨a1, _ | ⟨a2, _ | ⟨a3, _ | ⟨b0, _ | ⟨b1, _ | ⟨b2, _ | ⟨b3, rest⟩⟩⟩⟩⟩⟩⟩⟩
    case nil => rfl
    case cons.cons.cons.cons.cons.cons.cons.cons => exact absurd rfl (hshort a0 a1 a2 a3 b0 b1 b2 b3 rest)
    all_goals
      simp only [List.length_cons, List.length_nil] at h
      omega

theorem cfgRegOf_eq_some {n : Byte} {r : CfgReg} : cfgRegOf n = some r ↔ n = cfgRegNumber r := by
  constructor
  · intro h
    unfold cfgRegOf at h
    split at h <;> cases h <;> exact BitVec.eq_of_toNat_eq ‹_›
  · rintro rfl
    cases r <;> rfl

theorem statRegOf_eq_some {n : Byte} {r : StatReg} : statRegOf n = some r ↔ n = statRegNumber r := by
  constructor
  · intro h
    unfold statRegOf at h
    split at h
    case h_12 =>
      obtain ⟨c, hc, rfl⟩ := Option.map_eq_some_iff.mp h
      exact cfgRegOf_eq_some.mp hc
    all_goals cases h; exact BitVec.eq_of_toNat_eq ‹_›
  · rintro rfl
    cases r with
    | cfg c => cases c <;> rfl
    | _ => rfl

theorem stageOf_eq_some {n : Byte} {k : Stage} : stageOf n = some k ↔ n = stageNumber k := by
  constructor
  · intro h
    unfold stageOf at h
    split at h <;> cases h <;> exact BitVec.eq_of_toNat_eq ‹_›
  · rintro rfl
    cases k <;> rfl

/-- A signed 64-bit operand is the number it was encoded from, where that fits. -/
theorem toInt_eq_iff {w : BitVec 64} {z : Int} :
    w.toInt = z ↔ w = BitVec.ofInt 64 z ∧ -2 ^ 63 ≤ z ∧ z < 2 ^ 63 := by
  constructor
  · rintro rfl
    exact ⟨BitVec.ofInt_toInt.symm, BitVec.le_toInt w, BitVec.toInt_lt⟩
  · rintro ⟨rfl, hle, hlt⟩
    exact BitVec.toInt_ofInt_eq_self (by decide) hle hlt

end Sys2Proof.Proofs

/-! What each field reader of the decoder answers an operation from (spec/30_encoding.md R110): exactly the bytes the
encoder writes for the field's value. -/

namespace Sys2Proof.Proofs

open Sys2Proof.Machine Sys2Proof.Laws Sys2Proof.Laws.OpCode

section

variable {bs rest : List Byte} {i : Instr}

theorem takeBytes_eq_ok {n : Nat} {k : List Byte → List Byte → Decoded} :
    takeBytes n bs k = .ok i rest ↔
      ∃ field tail, field.length = n ∧ bs = field ++ tail ∧ k field tail = .ok i rest := by
  constructor
  · intro h
    unfold takeBytes at h
    split_ifs at h with hn
    exact ⟨bs.take n, bs.drop n, List.length_take_of_le hn, (List.take_append_drop n bs).symm, h⟩
  · rintro ⟨field, tail, rfl, rfl, hk⟩
    simpa [takeBytes] using hk

theorem takeLE_eq_ok {n : Nat} {k : Nat → List Byte → Decoded} :
    takeLE n bs k = .ok i rest ↔
      ∃ v tail, v < 256 ^ n ∧ bs = bytesLE n v ++ tail ∧ k v tail = .ok i rest := by
  rw [takeLE, takeBytes_eq_ok]
  constructor
  · rintro ⟨field, tail, rfl, rfl, hk⟩
    exact ⟨leNat field, tail, leNat_lt field, by rw [bytesLE_leNat rfl], hk⟩
  · rintro ⟨v, tail, hv, rfl, hk⟩
    exact ⟨bytesLE n v, tail, bytesLE_length n v, rfl, by rwa [leNat_bytesLE hv]⟩

/-- A little-endian field of `n` bytes read as a word of `m` bits. -/
def takeWord (m n : Nat) (bs : List Byte) (k : BitVec m → List Byte → Decoded) : Decoded :=
  takeLE n bs fun v tail => k (BitVec.ofNat m v) tail

/-- Every value of a word of the field's width fits. -/
theorem takeWord_eq_ok {m n : Nat} (hmn : 256 ^ n = 2 ^ m) {k : BitVec m → List Byte → Decoded} :
    takeWord m n bs k = .ok i rest ↔
      ∃ w tail, bs = bytesLE n w.toNat ++ tail ∧ k w tail = .ok i rest := by
  rw [takeWord, takeLE_eq_ok]
  constructor
  · rintro ⟨v, tail, hv, rfl, hk⟩
    have hv : (BitVec.ofNat m v).toNat = v := Nat.mod_eq_of_lt (hmn ▸ hv)
    exact ⟨BitVec.ofNat m v, tail, by rw [hv], hk⟩
  · rintro ⟨w, tail, rfl, hk⟩
    exact ⟨w.toNat, tail, hmn ▸ w.isLt, rfl, by rwa [BitVec.ofNat_toNat, BitVec.setWidth_eq]⟩

/-- Where a number names nothing and is refused, an answer means that it names something. -/
theorem elim_reject_eq_ok {α : Type} {o : Option α} {why : Reject} {tail : List Byte} {f : α → Decoded} :
    o.elim (.reject why tail) f = .ok i rest ↔ ∃ a, o = some a ∧ f a = .ok i rest := by
  cases o with
  | none => simp
  | some a => simp

theorem takeByte_eq_ok {k : Byte → List Byte → Decoded} :
    takeByte bs k = .ok i rest ↔ ∃ b tail, bs = b :: tail ∧ k b tail = .ok i rest := by
  cases bs with
  | nil => simp [takeByte]
  | cons b tail => simp [takeByte]

theorem takeBlock_eq_ok {k : List Byte → List Byte → Decoded} :
    takeBlock bs k = .ok i rest ↔
      ∃ data tail, data.length < 2 ^ 32 ∧ bs = blockBytes data ++ tail ∧ k data tail = .ok i rest := by
  simp only [takeBlock, takeLE_eq_ok, takeBytes_eq_ok, blockBytes]
  constructor
  · rintro ⟨n, -, hn, rfl, data, tail, rfl, rfl, hk⟩
    exact ⟨data, tail, hn, (List.append_assoc _ _ _).symm, hk⟩
  · rintro ⟨data, tail, hlen, rfl, hk⟩
    exact ⟨data.length, data ++ tail, hlen, List.append_assoc _ _ _, data, tail, rfl, rfl, hk⟩

theorem flatMap_sampleBytesLE_length (run : List Sample) :
    (run.flatMap sampleBytesLE).length = 8 * run.length := by
  simpa [runBytes, bytesLE_length] using runBytes_length run

/-- A field of whole samples holds a run. -/
theorem takeBytes_samples_eq_ok {n : Nat} {k : List Sample → List Byte → Decoded} :
    (takeBytes (8 * n) bs fun field tail => k (samplesLE field) tail) = .ok i rest ↔
      ∃ run tail, run.length = n ∧ bs = run.flatMap sampleBytesLE ++ tail ∧ k run tail = .ok i rest := by
  rw [takeBytes_eq_ok]
  constructor
  · rintro ⟨field, tail, hlen, rfl, hk⟩
    have hfield := flatMap_samplesLE hlen
    have hrun : (samplesLE field).length = n := by
      have := flatMap_sampleBytesLE_length (samplesLE field)
      rw [hfield] at this
      omega
    exact ⟨samplesLE field, tail, hrun, by rw [hfield], hk⟩
  · rintro ⟨run, tail, rfl, rfl, hk⟩
    exact ⟨_, tail, flatMap_sampleBytesLE_length run, rfl, by rwa [samplesLE_flatMap]⟩

theorem takeRun_eq_ok {k : List Sample → List Byte → Decoded} :
    takeRun bs k = .ok i rest ↔
      ∃ run tail, run.length < 2 ^ 32 ∧ bs = runBytes run ++ tail ∧ k run tail = .ok i rest := by
  simp only [takeRun, takeLE_eq_ok, takeBytes_samples_eq_ok, runBytes]
  constructor
  · rintro ⟨n, -, hn, rfl, run, tail, rfl, rfl, hk⟩
    exact ⟨run, tail, hn, (List.append_assoc _ _ _).symm, hk⟩
  · rintro ⟨run, tail, hlen, rfl, hk⟩
    exact ⟨run.length, _, hlen, List.append_assoc _ _ _, run, tail, rfl, rfl, hk⟩

theorem takeSample_eq_ok {k : Sample → List Byte → Decoded} :
    takeSample bs k = .ok i rest ↔
      ∃ x tail, bs = sampleBytesLE x ++ tail ∧ k x tail = .ok i rest := by
  refine (takeBytes_samples_eq_ok (n := 1) (k := fun run => k (run.headD Sample.zero))).trans ?_
  constructor
  · rintro ⟨run, tail, hlen, rfl, hk⟩
    obtain ⟨x, rfl⟩ := List.length_eq_one_iff.mp hlen
    exact ⟨x, tail, by simp, hk⟩
  · rintro ⟨x, tail, rfl, hk⟩
    exact ⟨[x], tail, rfl, by simp, hk⟩

theorem takeStage_eq_ok {k : Stage → List Byte → Decoded} :
    takeStage bs k = .ok i rest ↔
      ∃ st tail, bs = stageNumber st :: tail ∧ k st tail = .ok i rest := by
  have hstage : takeStage bs k =
      takeByte bs fun b tail => (stageOf b).elim (.reject (.badStage b) tail) fun st => k st tail :=
    congrArg (takeByte bs) (funext₂ fun b tail => by cases stageOf b <;> rfl)
  rw [hstage]
  simp only [takeByte_eq_ok, elim_reject_eq_ok, stageOf_eq_some]
  constructor
  · rintro ⟨_, tail, rfl, st, rfl, hk⟩
    exact ⟨st, tail, rfl, hk⟩
  · rintro ⟨st, tail, rfl, hk⟩
    exact ⟨_, tail, rfl, st, rfl, hk⟩

end

end Sys2Proof.Proofs

/-! Decoder and encoder agree (spec/30_encoding.md R110 to R114): under an operation's code the decoder answers it from
exactly its operand bytes. -/

namespace Sys2Proof.Proofs

open Sys2Proof.Machine Sys2Proof.Laws Sys2Proof.Laws.OpCode

theorem decode_cfgwr (bs : List Byte) :
    decode (0x01 :: bs) =
      takeByte bs fun n bs => takeLE 2 bs fun len bs => takeBytes len bs fun value tail =>
        (cfgRegOf n).elim (.reject (.unknownRegister n) tail) fun reg => .ok (.cfgwr reg value) tail :=
  congrArg (takeByte bs) <| funext₂ fun n bs => congrArg (takeLE 2 bs) <| funext₂ fun len bs =>
    congrArg (takeBytes len bs) <| funext₂ fun value tail => by cases cfgRegOf n <;> rfl

theorem decode_statrd (bs : List Byte) :
    decode (0x07 :: bs) = takeByte bs fun n bs => takeWord 16 2 bs fun idx tail =>
      (statRegOf n).elim (.reject (.unknownRegister n) tail) fun reg => .ok (.statrd reg idx) tail :=
  congrArg (takeByte bs) <| funext₂ fun n bs => congrArg (takeLE 2 bs) <| funext₂ fun idx tail => by
    cases statRegOf n <;> rfl

theorem decode_lpfDesign (bs : List Byte) :
    decode (0x10 :: bs) = takeWord 64 8 bs fun taps bs => takeWord 64 8 bs fun cutoff tail =>
      .ok (.lpfDesign taps.toInt cutoff) tail := rfl

/-- Under an operation's code, exactly its operand bytes, within their bounds, are read as that operation. -/
theorem decode_opCode_eq_ok (i : Instr) {bs rest : List Byte} :
    decode (opCode i :: bs) = .ok i rest ↔ bs = operandBytes i ++ rest ∧ i.WF := by
  cases i with
  | reset | start | eos | cancel | reanchor | tsAnchor | frmFlush =>
    simp [decode, opCode, operandBytes, Instr.WF, Instr.wellFormed]
  | push data | carrySplit data | convS16 data | convF32 data | frmSend data =>
    simp [decode, opCode, operandBytes, Instr.WF, Instr.wellFormed, takeBlock_eq_ok, and_comm]
  | ncoRun run | frmAccum run =>
    simp [decode, opCode, operandBytes, Instr.WF, Instr.wellFormed, takeRun_eq_ok, and_comm]
  | decStep k x =>
    simp [decode, opCode, operandBytes, Instr.WF, Instr.wellFormed, takeStage_eq_ok, takeSample_eq_ok]
  | decRun k run =>
    simp [decode, opCode, operandBytes, Instr.WF, Instr.wellFormed, takeStage_eq_ok, takeRun_eq_ok,
      and_comm]
  | ncoStep x =>
    simp [decode, opCode, operandBytes, Instr.WF, Instr.wellFormed, takeSample_eq_ok]
  | tsHeader n =>
    simp [decode, opCode, operandBytes, Instr.WF, Instr.wellFormed, takeLE_eq_ok, and_comm]
  | cfgwr reg value =>
    rw [opCode, decode_cfgwr]
    simp [operandBytes, Instr.WF, Instr.wellFormed, takeByte_eq_ok, takeLE_eq_ok, takeBytes_eq_ok,
      elim_reject_eq_ok, cfgRegOf_eq_some, and_comm]
  | statrd reg idx =>
    rw [opCode, decode_statrd]
    simp [operandBytes, Instr.WF, Instr.wellFormed, takeByte_eq_ok, takeWord_eq_ok, elim_reject_eq_ok,
      statRegOf_eq_some]
  | lpfDesign taps cutoff =>
    rw [opCode, decode_lpfDesign]
    simp [operandBytes, Instr.WF, Instr.wellFormed, takeWord_eq_ok, toInt_eq_iff, and_comm]

/-- Settles O49: the operand bytes are what the decoder answers the operation from. -/
theorem decodeOfEncode : Obligations.DecodeOfEncode :=
  fun i _ hwf => (decode_opCode_eq_ok i).mpr ⟨rfl, hwf⟩

/-- Settles O50: the code at the head is the operation's, and behind it stand its operand bytes. -/
theorem encodeOfDecode : Obligations.EncodeOfDecode := by
  unfold Obligations.EncodeOfDecode
  intro bs rest i h
  cases bs with
  | nil => cases h
  | cons op bs =>
    obtain rfl := decode_hasCode op bs i rest h
    obtain ⟨rfl, hwf⟩ := (decode_opCode_eq_ok i).mp h
    exact ⟨rfl, hwf⟩

/-- Settles O51, by running the decoder. -/
theorem specBytesDecode : Obligations.SpecBytesDecode := by
  unfold Obligations.SpecBytesDecode
  decide

end Sys2Proof.Proofs

/-! The wire format of a frame (spec/30_encoding.md R94, R96): eight bytes a sample, so that dropping samples from a
frame drops eight times as many bytes. -/

namespace Sys2Proof.Proofs

open Sys2Proof.Machine Sys2Proof.Laws

theorem serialise_cons (e : Endian) (x : Sample) (xs : List Sample) :
    serialise e (x :: xs) = bytesE e x.re ++ (bytesE e x.im ++ serialise e xs) := by
  simp [serialise, sampleBytes]

theorem serialise_length (e : Endian) (frame : List Sample) :
    (serialise e frame).length = 8 * frame.length := by
  induction frame with
  | nil => rfl
  | cons x xs ih =>
    simp only [serialise_cons, List.length_append, bytesE_length, ih, List.length_cons]
    omega

theorem drop_serialise (e : Endian) {frame : List Sample} {i : Nat} (h : i ≤ frame.length) :
    (serialise e frame).drop (8 * i) = serialise e (frame.drop i) := by
  have hsplit : serialise e frame = serialise e (frame.take i) ++ serialise e (frame.drop i) := by
    rw [serialise, serialise, serialise, ← List.flatMap_append, List.take_append_drop]
  have hlen : (serialise e (frame.take i)).length = 8 * i := by
    rw [serialise_length, List.length_take_of_le h]
  rw [hsplit, List.drop_left' hlen]

/-- Settles O29: at byte 8i the serialisation goes on with sample i. -/
theorem frameLayout : Obligations.FrameLayout := by
  unfold Obligations.FrameLayout
  intro e frame
  refine ⟨serialise_length e frame, fun i x hx => ?_⟩
  obtain ⟨hi, rfl⟩ := List.getElem?_eq_some_iff.mp hx
  rw [← List.drop_drop, drop_serialise e hi.le, List.drop_eq_getElem_cons hi, serialise_cons,
    List.drop_left' (bytesE_length _ _)]
  exact ⟨List.take_left' (bytesE_length _ _), List.take_left' (bytesE_length _ _)⟩

end Sys2Proof.Proofs

/-! What a step does with the operation, or the refused bytes, at the head of the bench or the command port
(spec/30_encoding.md R113, 70_reset_and_hazards R325). -/

namespace Sys2Proof.Proofs

open Sys2Proof.Machine Sys2Proof.Laws

theorem step_of_run {s t : State} {i : Instr} (h : NoSignalNext s) (hrun : nextOperation s = .run i t) :
    step s = awaitAnswers s (exec i (t.setWaiting false)) := by
  rw [step, fetch_next h, hrun]

theorem step_of_refuse {s t : State} {why : Reject} (h : NoSignalNext s)
    (hrefuse : nextOperation s = .refuse why t) : step s = .next (t.refuse why) := by
  rw [step, fetch_next h, hrefuse]

/-- The command port answers what the decoder does, where that is a host command. -/
theorem portCommand_of_hostCommand {bs rest : List Byte} {i : Instr} (h : decode bs = .ok i rest)
    (hi : isHostCommand i = true) : portCommand bs = .ok i rest := by
  cases bs with
  | nil => cases h
  | cons op bs =>
    have hop : op.toNat ≤ 7 := by
      rw [← decode_hasCode op bs i rest h]
      exact of_decide_eq_true hi
    rw [portCommand, if_pos hop, h]

/-- The bench answers what the decoder does, where that is a micro-operation. -/
theorem benchOperation_of_micro {bs rest : List Byte} {i : Instr} (h : decode bs = .ok i rest)
    (hi : isHostCommand i = false) : benchOperation bs = .ok i rest := by
  cases bs with
  | nil => cases h
  | cons op bs =>
    have hop : ¬ op.toNat ≤ 7 := by
      rw [← decode_hasCode op bs i rest h]
      exact of_decide_eq_false hi
    rw [benchOperation, if_neg hop, h]

theorem nextOperation_port_run {s : State} {i : Instr} {rest : List Byte} (hbench : s.bench = [])
    (h : decode s.port = .ok i rest) (hi : isHostCommand i = true) :
    nextOperation s = .run i { s with port := rest } := by
  rw [nextOperation, if_pos hbench, portCommand_of_hostCommand h hi]

theorem nextOperation_bench_run {s : State} {i : Instr} {rest : List Byte}
    (h : decode s.bench = .ok i rest) (hi : isHostCommand i = false) :
    nextOperation s = .run i { s with bench := rest } := by
  have hbench : s.bench ≠ [] := by
    intro hnil
    rw [hnil] at h
    cases h
  rw [nextOperation, if_neg hbench, benchOperation_of_micro h hi]

theorem nextOperation_port_refuse {s : State} {why : Reject} {rest : List Byte} (hbench : s.bench = [])
    (h : portCommand s.port = .reject why rest) :
    nextOperation s = .refuse why { s with port := rest } := by
  rw [nextOperation, if_pos hbench, h]

theorem awaitAnswers_of_no_limit {s : State} (h : s.host.limit = none)
    (done : Host.Outcome State Fault Refusal) : awaitAnswers s done = done := by
  cases done with
  | next t => rw [awaitAnswers, owes_none h]; rfl
  | fault f => rfl
  | refused r => rfl

theorem unanswered_eq_false {before after limit : Nat} :
    unanswered before after limit = false ↔ after ≤ max before limit := by
  rw [unanswered, decide_eq_false_iff_not, le_max_iff]
  omega

/-- The host owes nothing where no count went beyond both what it was and what the host undertook. -/
theorem owes_eq_false {h h' : HostSide} {m : AnswerCounts} (hm : h.limit = some m) :
    h.owes h' = false ↔
      h'.nParsable ≤ max h.nParsable m.parsable ∧ h'.nSinkOpen ≤ max h.nSinkOpen m.sinkOpen ∧
        h'.nClock ≤ max h.nClock m.clock ∧ h'.nEmit ≤ max h.nEmit m.emit := by
  simp only [HostSide.owes, hm, Bool.or_eq_false_iff, unanswered_eq_false, and_assoc]

/-- Settles O45: what stands at the head of the port or the bench is run, and its answer held back where the host owes
one. -/
theorem stepRunsTheDecodedOperation : Obligations.StepRunsTheDecodedOperation := by
  unfold Obligations.StepRunsTheDecodedOperation
  intro s s' i rest hsignal hhead
  have hstep : step s = awaitAnswers s (exec i s') := by
    obtain ⟨hbench, hdecode, hhost, rfl⟩ | ⟨hdecode, hmicro, rfl⟩ := hhead
    · exact step_of_run hsignal (nextOperation_port_run hbench hdecode hhost)
    · exact step_of_run hsignal (nextOperation_bench_run hdecode hmicro)
  rw [hstep]
  refine ⟨fun hlimit => awaitAnswers_of_no_limit hlimit _, fun f hf => by rw [hf]; rfl, ?_⟩
  intro m t hlimit ht
  rw [ht, awaitAnswers]
  by_cases howes : s.host.owes t.host = false
  · rw [if_pos ((owes_eq_false hlimit).mp howes), howes]
    rfl
  · rw [if_neg (mt (owes_eq_false hlimit).mpr howes), if_pos (eq_true_of_ne_false howes)]
    rfl

/-- The command port refuses every code above 0x07 and takes its byte (30_encoding R113). -/
theorem portCommand_refuses_above {op : Byte} (rest : List Byte) (h : 8 ≤ op.toNat) :
    ∃ why, portCommand (op :: rest) = .reject why rest := by
  rw [portCommand, if_neg (by omega)]
  split
  · exact ⟨_, rfl⟩
  · exact ⟨_, rfl⟩

theorem takeLE_two (lo hi : Byte) (rest : List Byte) (k : Nat → List Byte → Decoded) :
    takeLE 2 (lo :: hi :: rest) k = k (lo.toNat + 256 * hi.toNat) rest := by
  simp [takeLE, takeBytes, leNat]

theorem takeBytes_of_le {n : Nat} {bs : List Byte} (h : n ≤ bs.length)
    (k : List Byte → List Byte → Decoded) : takeBytes n bs k = k (bs.take n) (bs.drop n) :=
  if_pos h

theorem cfgRegOf_eq_none {n : Byte} (h : 0x07 ≤ n.toNat) : cfgRegOf n = none := by
  refine Option.eq_none_iff_forall_ne_some.mpr fun r hr => ?_
  have hlt : (cfgRegNumber r).toNat < 0x07 := by cases r <;> decide
  rw [cfgRegOf_eq_some.mp hr] at h
  omega

theorem statRegOf_eq_none {n : Byte} (h : (0x07 ≤ n.toNat ∧ n.toNat < 0x10) ∨ 0x1A < n.toNat) :
    statRegOf n = none := by
  refine Option.eq_none_iff_forall_ne_some.mpr fun r hr => ?_
  have hlisted : (statRegNumber r).toNat < 0x07 ∨
      0x10 ≤ (statRegNumber r).toNat ∧ (statRegNumber r).toNat ≤ 0x1A := by
    cases r with
    | cfg c => cases c <;> decide
    | _ => decide
  rw [statRegOf_eq_some.mp hr] at h
  omega

/-- A CFGWR of an unlisted register is taken whole (30_encoding R112, R113). -/
theorem portCommand_cfgwr_unlisted {n lo hi : Byte} {rest : List Byte} (hn : 0x07 ≤ n.toNat)
    (hlen : lo.toNat + 256 * hi.toNat ≤ rest.length) :
    portCommand (0x01 :: n :: lo :: hi :: rest) =
      .reject (.unknownRegister n) (rest.drop (lo.toNat + 256 * hi.toNat)) := by
  rw [portCommand, if_pos (by decide), decode_cfgwr, takeByte, takeLE_two, takeBytes_of_le hlen,
    cfgRegOf_eq_none hn]
  rfl

/-- A STATRD of an unlisted register is taken whole (30_encoding R112, R113). -/
theorem portCommand_statrd_unlisted {n : Byte} (lo hi : Byte) (rest : List Byte)
    (hn : (0x07 ≤ n.toNat ∧ n.toNat < 0x10) ∨ 0x1A < n.toNat) :
    portCommand (0x07 :: n :: lo :: hi :: rest) = .reject (.unknownRegister n) rest := by
  rw [portCommand, if_pos (by decide), decode_statrd, takeByte, takeWord, takeLE_two,
    statRegOf_eq_none hn]
  rfl

/-- Settles O46: the port refuses each of the three, and a step takes the refused bytes and changes nothing else. -/
theorem illegalCommandsAreRefused : Obligations.IllegalCommandsAreRefused := by
  unfold Obligations.IllegalCommandsAreRefused
  intro s op n lo hi rest hsignal hbench
  have hrefused {why : Reject} {tail : List Byte} (h : portCommand s.port = .reject why tail) :
      step s = .next { s with port := tail, resp := .refused why } :=
    step_of_refuse hsignal (nextOperation_port_refuse hbench h)
  refine ⟨fun hport hop => ?_, fun hport hn hlen => ?_, fun hport hn => ?_⟩
  · obtain ⟨why, hwhy⟩ := portCommand_refuses_above rest hop
    exact ⟨why, hrefused (hport ▸ hwhy)⟩
  · exact hrefused (hport ▸ portCommand_cfgwr_unlisted hn hlen)
  · exact hrefused (hport ▸ portCommand_statrd_unlisted lo hi rest hn)

end Sys2Proof.Proofs

/-! The lowpass designer: `coerce` and the designed vector's length (40_lowpass_designer R130, R131). -/

namespace Sys2Proof.Proofs

open Sys2Proof.Machine Sys2Proof.Laws

theorem coerceTaps_of_lt {taps : Int} (h : taps < 3) : coerceTaps taps = 3 := if_pos h

theorem coerceTaps_of_odd {taps : Int} (h3 : 3 ≤ taps) (hodd : taps % 2 = 1) : (coerceTaps taps : Int) = taps := by
  rw [coerceTaps, if_neg (by omega), if_pos hodd]
  omega

theorem coerceTaps_of_even {taps : Int} (h3 : 3 ≤ taps) (heven : taps % 2 = 0) :
    (coerceTaps taps : Int) = taps + 1 := by
  rw [coerceTaps, if_neg (by omega), if_neg (by omega)]
  omega

/-- The three cases of `coerce` (40 R131) leave no even result. -/
theorem coerceTaps_odd (taps : Int) : coerceTaps taps % 2 = 1 := by
  obtain hlow | h3 := lt_or_ge taps 3
  · rw [coerceTaps_of_lt hlow]
  · obtain heven | hodd := Int.emod_two_eq_zero_or_one taps
    · have hsucc := coerceTaps_of_even h3 heven
      omega
    · have hsame := coerceTaps_of_odd h3 hodd
      omega

/-- Settles O1: `coerceTaps` case by case; a built stage has the shape `StageBuilt` gives it. -/
theorem coercedTapsAreNextOdd : Obligations.CoercedTapsAreNextOdd := by
  unfold Obligations.CoercedTapsAreNextOdd
  intro taps
  refine ⟨coerceTaps_of_lt, coerceTaps_of_odd, coerceTaps_of_even, coerceTaps_odd taps,
    three_le_coerceTaps taps, fun p k => ?_⟩
  obtain ⟨hcoef, hhist, -, -⟩ := builtStage_built p k
  exact ⟨hcoef, hhist⟩

theorem lpfDesign_length (p : Params) (taps : Int) (cutoff : F64) :
    (lpfDesign p taps cutoff).length = coerceTaps taps :=
  numDesign_length p (coerceTaps taps) cutoff

/-- LPF.DESIGN reads the parameters and writes the response alone (40 R130). -/
theorem exec_lpfDesign (taps : Int) (cutoff : F64) (s : State) :
    exec (.lpfDesign taps cutoff) s =
      .next { s with resp := .coefs (lpfDesign s.params taps cutoff) } := rfl

/-- Settles O2: the response is `lpfDesign` at the state's parameters, a vector of `coerceTaps taps` words. -/
theorem designReturnsOddLengthAndTouchesNothing : Obligations.DesignReturnsOddLengthAndTouchesNothing := by
  unfold Obligations.DesignReturnsOddLengthAndTouchesNothing
  intro taps cutoff s
  have hlen := lpfDesign_length s.params taps cutoff
  refine ⟨lpfDesign s.params taps cutoff, hlen, ?_, ?_, fun s' hparams => ?_⟩
  · rw [hlen, coerceTaps_odd]
  · rw [hlen]
    exact three_le_coerceTaps taps
  · rw [exec_lpfDesign, hparams]

end Sys2Proof.Proofs

/-! DEC.STEP and DEC.RUN alone (spec/41_cascaded_decimator.md R150 to R160): what they hand back is a function of the
parameters, the stage and the samples. -/

namespace Sys2Proof.Proofs

open Sys2Proof.Machine Sys2Proof.Laws

/-- What DEC.RUN returns from a stage: the output after each write, where there is one (41 R155). -/
def runOutputs (p : Params) (k : Stage) : List Sample → Dec → List Sample
  | [], _ => []
  | x :: xs, d =>
    (decOutput p (decWrite (Config.factor k) x d)).toList ++
      runOutputs p k xs (decWrite (Config.factor k) x d)

@[simp] theorem decRun_result (k : Stage) (run : List Sample) (s : State) :
    (decRun k run s).1 = runOutputs s.params k run (s.dec k) := by
  induction run generalizing s with
  | nil => rfl
  | cons x xs ih => simp [decRun_cons, ih, runOutputs]

theorem exec_decStep (k : Stage) (x : Sample) (s : State) :
    exec (.decStep k x) s =
      .next ((s.setDec k (decWrite (Config.factor k) x (s.dec k))).respond
        (.output (decOutput s.params (decWrite (Config.factor k) x (s.dec k))))) := rfl

theorem exec_decRun (k : Stage) (run : List Sample) (s : State) :
    exec (.decRun k run) s =
      .next ((s.setDec k (writtenRun k run (s.dec k))).respond
        (.samples (runOutputs s.params k run (s.dec k)))) := by
  rw [← decRun_state, ← decRun_result]
  rfl

/-- DEC.RUN of no samples returns none and changes nothing. -/
theorem exec_decRun_nil (k : Stage) (s : State) :
    exec (.decRun k []) s = .next (s.respond (.samples [])) := rfl

theorem exec_decRun_samples {k : Stage} {run ys : List Sample} {s t : State}
    (h : exec (.decRun k run) s = .next t) (hresp : t.resp = .samples ys) :
    ys = runOutputs s.params k run (s.dec k) := by
  rw [exec_decRun] at h
  cases h
  cases hresp
  rfl

theorem setDec_respond (s : State) (k : Stage) (d : Dec) (r : Resp) :
    (s.respond r).setDec k d = (s.setDec k d).respond r := by
  cases k <;> rfl

/-- Writing one stage and responding changes that stage and the response alone. -/
theorem setDec_respond_frame (s : State) (k : Stage) (d : Dec) (r : Resp) :
    (s.setDec k d).respond r =
      { s with dec1 := ((s.setDec k d).respond r).dec1, dec2 := ((s.setDec k d).respond r).dec2,
               dec3 := ((s.setDec k d).respond r).dec3, resp := r } := by
  cases k <;> rfl

theorem setDec_respond_dec_other (s : State) {k k' : Stage} (d : Dec) (r : Resp) (h : k' ≠ k) :
    ((s.setDec k d).respond r).dec k' = s.dec k' := by
  rw [respond_dec, setDec_dec_other s d h]

/-! ## DEC.STEP -/

/-- The window's element `j` is the sample taken `j` inputs ago (41 R153, 20_memory R62). -/
theorem window_getElem? {d : Dec} {j : Nat} (hj : j < d.hist.length) :
    (window d.hist d.cur)[j]? = heldAgo d j := by
  have hpos : 0 < d.hist.length := by omega
  have hindex : ((d.cur : Int) - 1 - j) % (d.hist.length : Int) =
      ((d.cur + (d.hist.length - 1 - j)) % d.hist.length : Nat) := by
    rw [Int.natCast_mod, ← Int.add_emod_right]
    congr 1
    omega
  have hlt := Nat.mod_lt (d.cur + (d.hist.length - 1 - j)) hpos
  rw [heldAgo, hindex, Int.toNat_natCast, window, List.getElem?_map, List.getElem?_range hj,
    Option.map_some, List.getD_eq_getElem _ _ hlt, List.getElem?_eq_getElem hlt]

theorem decOutput_of_ph_ne_zero (p : Params) {d : Dec} (h : d.ph ≠ 0) : decOutput p d = none := if_neg h

theorem decOutput_of_ph_zero (p : Params) {d : Dec} (h : d.ph = 0) :
    decOutput p d = some (numFirDot p d.coef (window d.hist d.cur)) := if_pos h

/-- Settles O3: the written stage is `decWrite`, and the window it answers from holds the samples by their age. -/
theorem decStepWritesAdvancesAndOutputs : Obligations.DecStepWritesAdvancesAndOutputs := by
  unfold Obligations.DecStepWritesAdvancesAndOutputs
  intro k x s d hd hcur
  subst hd
  set d := s.dec k
  set d' := decWrite (Config.factor k) x d with hd'
  have hlen : d'.hist.length = d.hist.length := by simp [hd']
  refine ⟨_, d', exec_decStep k x s, by simp [hd', d], rfl, hlen, fun i hi => ?_, rfl, rfl,
    fun hph => ?_, fun hph => ⟨window d'.hist d'.cur, ?_, ?_, fun j hj => ?_, ?_⟩,
    fun k' hk => setDec_respond_dec_other s _ _ hk, setDec_respond_frame s k _ _⟩
  · rw [hd', decWrite_hist]
    by_cases h : i = d.cur
    · rw [if_pos h, h, List.getElem?_set_self hcur]
    · rw [if_neg h, List.getElem?_set_ne (Ne.symm h)]
  · rw [respond_resp, decOutput_of_ph_ne_zero _ hph]
  · rw [window_length, hlen]
  · rw [window_getElem? (by omega), heldAgo_decWrite_zero _ x hcur]
  · rw [window_getElem? (by omega), heldAgo_eq hlen]
  · rw [respond_resp, decOutput_of_ph_zero _ hph]
    rfl

/-! ## DEC.RUN -/

/-- A write advances a phase below the factor by one, and answers where it wraps. -/
theorem decWrite_advance (p : Params) {F : Nat} (x : Sample) {d : Dec} (h : d.ph < F) :
    (decWrite F x d).ph + F * (decOutput p (decWrite F x d)).toList.length = d.ph + 1 := by
  obtain hwrap | hlt := Nat.eq_or_lt_of_le (Nat.succ_le_of_lt h)
  · have hph : (decWrite F x d).ph = 0 := by rw [decWrite_ph, ← hwrap, Nat.mod_self]
    rw [decOutput_of_ph_zero p hph, hph, Option.toList_some, List.length_singleton]
    omega
  · have hph : (decWrite F x d).ph = d.ph + 1 := by rw [decWrite_ph, Nat.mod_eq_of_lt hlt]
    rw [decOutput_of_ph_ne_zero p (by omega), hph, Option.toList_none, List.length_nil, Nat.mul_zero,
      Nat.add_zero]

/-- Along a run the phase and `F` times the outputs add up to the inputs (41 R156). -/
theorem writtenRun_advance (p : Params) (k : Stage) (run : List Sample) {d : Dec}
    (h : d.ph < Config.factor k) :
    (writtenRun k run d).ph < Config.factor k ∧
      (writtenRun k run d).ph + Config.factor k * (runOutputs p k run d).length =
        d.ph + run.length := by
  induction run generalizing d with
  | nil => exact ⟨h, rfl⟩
  | cons x xs ih =>
    have hstep := decWrite_advance p x h
    obtain ⟨hlt, hsum⟩ := ih (d := decWrite (Config.factor k) x d) (Nat.mod_lt _ (factor_pos k))
    refine ⟨hlt, ?_⟩
    rw [runOutputs, List.length_append, Nat.mul_add, writtenRun_cons, List.length_cons]
    omega

theorem runOutputs_length (p : Params) (k : Stage) (run : List Sample) {d : Dec}
    (h : d.ph < Config.factor k) :
    (runOutputs p k run d).length = (d.ph + run.length) / Config.factor k := by
  obtain ⟨hlt, hsum⟩ := writtenRun_advance p k run h
  rw [← hsum, Nat.add_mul_div_left _ _ (factor_pos k), Nat.div_eq_of_lt hlt, Nat.zero_add]

theorem writtenRun_ph (k : Stage) (run : List Sample) {d : Dec} (h : d.ph < Config.factor k) :
    (writtenRun k run d).ph = (d.ph + run.length) % Config.factor k := by
  induction run generalizing d with
  | nil => exact (Nat.mod_eq_of_lt h).symm
  | cons x xs ih =>
    rw [writtenRun_cons, ih (Nat.mod_lt _ (factor_pos k)), decWrite_ph, Nat.mod_add_mod,
      List.length_cons, Nat.add_assoc, Nat.add_comm 1]

theorem writtenRun_cur (k : Stage) (run : List Sample) {d : Dec} (h : d.cur < d.hist.length) :
    (writtenRun k run d).cur = (d.cur + run.length) % d.hist.length := by
  induction run generalizing d with
  | nil => exact (Nat.mod_eq_of_lt h).symm
  | cons x xs ih =>
    rw [writtenRun_cons, ih (decWrite_cur_lt _ x h), decWrite_cur, decWrite_hist, List.length_set,
      Nat.mod_add_mod, List.length_cons, Nat.add_assoc, Nat.add_comm 1]

/-- DEC.STEP of the first sample and DEC.RUN of the others, their outputs joined (41 R155). -/
theorem exec_decRun_cons {k : Stage} {x : Sample} {xs ys : List Sample} {y : Option Sample}
    {s s1 t : State} (hstep : exec (.decStep k x) s = .next s1) (hy : s1.resp = .output y)
    (hrun : exec (.decRun k xs) s1 = .next t) (hys : t.resp = .samples ys) :
    exec (.decRun k (x :: xs)) s = .next (t.respond (.samples (y.toList ++ ys))) := by
  rw [exec_decStep] at hstep
  cases hstep
  cases hy
  obtain rfl := exec_decRun_samples hrun hys
  rw [exec_decRun] at hrun ⊢
  cases hrun
  simp [setDec_respond, runOutputs]

/-- Settles O5: along a run each write advances cursor and phase by one, and each wrap of the phase is one output. -/
theorem decRunOutputCount : Obligations.DecRunOutputCount := by
  unfold Obligations.DecRunOutputCount
  refine ⟨fun k run s d hd hcur hph => ?_, exec_decRun_nil, fun k x xs ys y s s1 t => exec_decRun_cons⟩
  subst hd
  have hcount := runOutputs_length s.params k run hph
  refine ⟨_, _, exec_decRun k run s, rfl, hcount, ?_, fun h0 => ?_, ?_, ?_,
    fun k' hk => setDec_respond_dec_other s _ _ hk, setDec_respond_frame s k _ _⟩
  · rw [respond_dec, setDec_dec_self, writtenRun_ph k run hph]
  · rw [hcount, h0, Nat.zero_add]
  · rw [respond_dec, setDec_dec_self, writtenRun_cur k run hcur]
  · rw [respond_dec, setDec_dec_self, writtenRun_coef]

theorem writtenRun_append (k : Stage) (a b : List Sample) (d : Dec) :
    writtenRun k (a ++ b) d = writtenRun k b (writtenRun k a d) :=
  List.foldl_append

theorem runOutputs_append (p : Params) (k : Stage) (a b : List Sample) (d : Dec) :
    runOutputs p k (a ++ b) d = runOutputs p k a d ++ runOutputs p k b (writtenRun k a d) := by
  induction a generalizing d with
  | nil => rfl
  | cons x xs ih => simp [runOutputs, ih]

theorem exec_decRun_append {k : Stage} {a b ya yb : List Sample} {s t u : State}
    (ha : exec (.decRun k a) s = .next t) (hya : t.resp = .samples ya)
    (hb : exec (.decRun k b) t = .next u) (hyb : u.resp = .samples yb) :
    exec (.decRun k (a ++ b)) s = .next (u.respond (.samples (ya ++ yb))) := by
  obtain rfl := exec_decRun_samples ha hya
  obtain rfl := exec_decRun_samples hb hyb
  rw [exec_decRun] at ha hb ⊢
  cases ha
  cases hb
  simp [setDec_respond, writtenRun_append, runOutputs_append]

/-- Settles O6: what a run writes and what it returns go over from one part of the run to the next. -/
theorem decRunIndependentOfChunking : Obligations.DecRunIndependentOfChunking :=
  fun _ _ _ _ _ _ _ _ ha hya hb hyb => exec_decRun_append ha hya hb hyb

/-! ## No feedback -/

/-- Two stages that differ in the contents of the history alone. -/
structure SameButHistory (d d' : Dec) : Prop where
  coef : d.coef = d'.coef
  histLength : d.hist.length = d'.hist.length
  cur : d.cur = d'.cur
  ph : d.ph = d'.ph

theorem decWrite_sameButHistory (F : Nat) (x : Sample) {d d' : Dec} (h : SameButHistory d d') :
    SameButHistory (decWrite F x d) (decWrite F x d') := by
  obtain ⟨hcoef, hlen, hcur, hph⟩ := h
  exact ⟨hcoef, by simp [hlen], by simp [hcur, hlen], by simp [hph]⟩

theorem writtenRun_sameButHistory (k : Stage) (run : List Sample) {d d' : Dec}
    (h : SameButHistory d d') : SameButHistory (writtenRun k run d) (writtenRun k run d') := by
  induction run generalizing d d' with
  | nil => exact h
  | cons x xs ih => exact ih (decWrite_sameButHistory _ x h)

/-- Every place of a history of `T` samples is `CUR - 1 - j` modulo `T` for some age `j` below `T`. -/
theorem exists_age {i T : Nat} (c : Nat) (hi : i < T) :
    ∃ j < T, (((c : Int) - 1 - j) % (T : Int)).toNat = i := by
  have hpos : 0 ≤ ((c : Int) - 1 - i) % T := Int.emod_nonneg _ (by omega)
  have hlt : ((c : Int) - 1 - i) % T < T := Int.emod_lt_of_pos _ (by omega)
  refine ⟨(((c : Int) - 1 - i) % T).toNat, by omega, ?_⟩
  rw [Int.toNat_of_nonneg hpos, Int.sub_emod_emod, sub_sub_cancel, ← Int.natCast_mod,
    Int.toNat_natCast, Nat.mod_eq_of_lt hi]

/-- With the cursor and the length, the samples by their age determine the history. -/
theorem eq_of_heldAgo_eq {d d' : Dec} (h : SameButHistory d d')
    (hheld : ∀ j < d.hist.length, heldAgo d j = heldAgo d' j) : d = d' := by
  obtain ⟨hcoef, hlen, hcur, hph⟩ := h
  have hhist : d.hist = d'.hist := by
    refine List.ext_getElem? fun i => ?_
    obtain hi | hi := Nat.lt_or_ge i d.hist.length
    · obtain ⟨j, hj, rfl⟩ := exists_age d.cur hi
      rw [← heldAgo, hheld j hj, heldAgo, hcur, hlen]
    · rw [List.getElem?_eq_none hi, List.getElem?_eq_none (hlen ▸ hi)]
  cases d
  cases d'
  simp_all

/-- A run of `T` samples or more fills the whole history. -/
theorem writtenRun_forgets_history (k : Stage) {run : List Sample} {d d' : Dec}
    (h : SameButHistory d d') (hcur : d.cur < d.hist.length) (hrun : d.hist.length ≤ run.length) :
    writtenRun k run d = writtenRun k run d' := by
  refine eq_of_heldAgo_eq (writtenRun_sameButHistory k run h) fun j hj => ?_
  rw [writtenRun_hist_length] at hj
  have hcur' : d'.cur < d'.hist.length := by rwa [← h.cur, ← h.histLength]
  rw [heldAgo_writtenRun k run hcur hj, heldAgo_writtenRun k run hcur' (h.histLength ▸ hj),
    if_pos (by omega), if_pos (by omega)]

/-- Settles O7: `T` inputs overwrite every sample a stage held, and what follows is a function of the stage. -/
theorem filterForgetsItsHistory : Obligations.FilterForgetsItsHistory := by
  unfold Obligations.FilterForgetsItsHistory
  intro k run more ya yb s s' t t' u u' hparams hcoef hlen hcur hph hin hrun ht ht' hu hu' hya hyb
  have hstage : t.dec k = t'.dec k := by
    rw [exec_decRun_dec ht, exec_decRun_dec ht',
      writtenRun_forgets_history k ⟨hcoef, hlen, hcur, hph⟩ hin hrun]
  refine ⟨hstage, ?_, ?_⟩
  · rw [exec_decRun_dec hu, exec_decRun_dec hu', hstage]
  · rw [exec_decRun_samples hu hya, exec_decRun_samples hu' hyb, exec_params ht, exec_params ht',
      hparams, hstage]

end Sys2Proof.Proofs

/-! Where an operation stops: FRM.FLUSH outside its precondition (spec/45_framer_streamer.md R231), and the flush loop
that would not end (R233); every other path gives a next state (41_cascaded_decimator R150, 60_exceptions R299). -/

namespace Sys2Proof.Proofs

open Sys2Proof.Machine Sys2Proof.Laws

theorem outcome_next_of_ne_fault {α : Type} {r : Res α} (view : α → Resp) (h : ∀ q, r ≠ .fault q) :
    ∃ t, r.outcome view = .next t := by
  cases r with
  | ok a s => exact ⟨_, rfl⟩
  | raised s => exact ⟨s, rfl⟩
  | fault q => exact absurd rfl (h q)

theorem acceptedIn_next (r : RunState) (s t : State) : ∃ u, acceptedIn r s (.next t) = .next u := by
  by_cases h : s.run = r
  · exact ⟨t, acceptedIn_self h⟩
  · exact ⟨_, acceptedIn_other h⟩

/-- The flush loop stops in `flushNeverEnds` alone, whatever its fuel. -/
theorem flushLoop_eq_fault {n : Nat} {s : State} {q : Fault} (h : flushLoop n s = .fault q) :
    q = .flushNeverEnds := by
  induction n generalizing s with
  | zero =>
    rw [flushLoop] at h
    split at h <;> cases h
    rfl
  | succ n ih =>
    by_cases hq : s.acc.length < s.pktValue - 1
    · rw [flushLoop_done hq] at h
      cases h
    · rw [flushLoop_turn (by omega)] at h
      exact ih h

/-- PUSH stops in its flush loop alone, and there only where a flush would not shorten the queue (45 R233). -/
theorem pushData_eq_fault {data : List Byte} {s : State} {q : Fault}
    (h : pushData data s = .fault q) : q = .flushNeverEnds ∧ s.pktValue < 2 := by
  obtain h | ⟨ys, u, hthrough, hloop⟩ := bind_eq_fault.mp h
  · exact absurd h (pushThrough_ne_fault data s q)
  · refine ⟨flushLoop_eq_fault hloop, Nat.lt_of_not_le fun hp => ?_⟩
    have hpkt : (frmAccum ys u).pktValue = s.pktValue := by
      rw [pushThrough_frame hthrough]
      rfl
    have hacc : (frmAccum ys u).acc.length ≤ u.acc.length + ys.length := by
      rw [frmAccum_acc, List.length_append]
    obtain ⟨t, ht⟩ := flushLoop_ends (hpkt ▸ hp) hacc
    rw [accumAndFlush, ht] at hloop
    cases hloop

theorem exec_push_next_or_fault (data : List Byte) (s : State) :
    (∃ t, exec (.push data) s = .next t) ∨
      s.run = .running ∧ s.pktValue < 2 ∧ exec (.push data) s = .fault .flushNeverEnds := by
  by_cases hrun : s.run = .running
  · have hexec : exec (.push data) s = (pushData data s).outcome fun _ => .done := acceptedIn_self hrun
    rw [hexec]
    cases hpush : pushData data s with
    | ok a t => exact .inl ⟨_, rfl⟩
    | raised t => exact .inl ⟨t, rfl⟩
    | fault q =>
      obtain ⟨rfl, hp⟩ := pushData_eq_fault hpush
      exact .inr ⟨hrun, hp, rfl⟩
  · exact .inl ⟨_, acceptedIn_other hrun⟩

theorem exec_frmFlush_fault {s : State} (h : s.acc.length < s.pktValue - 1) :
    exec .frmFlush s = .fault .flushPrecondition :=
  outcome_eq_fault.mpr (if_pos h)

theorem exec_frmFlush_of_le {s : State} (h : s.pktValue - 1 ≤ s.acc.length) :
    ∃ t, exec .frmFlush s = .next t :=
  ⟨_, outcome_eq_next.mpr (.inl ⟨(), _, frmFlush_eq_ok.mpr ⟨h, rfl⟩, rfl⟩)⟩

/-- The operations with a stop on some path. -/
def MayStop : Instr → Prop
  | .push _ => True
  | .frmFlush => True
  | _ => False

/-- Every other operation gives a next state in every state. -/
theorem exec_total {i : Instr} (hi : ¬ MayStop i) (s : State) : ∃ t, exec i s = .next t := by
  cases i with
  | push data => exact absurd trivial hi
  | frmFlush => exact absurd trivial hi
  | cfgwr reg value => exact acceptedIn_next _ _ _
  | start => exact acceptedIn_next _ _ _
  | eos => exact acceptedIn_next _ _ _
  | cancel => exact acceptedIn_next _ _ _
  | reanchor => exact acceptedIn_next _ _ _
  | convS16 bytes => exact outcome_next_of_ne_fault _ (aligned_ne_fault _ _ _ _)
  | convF32 bytes => exact outcome_next_of_ne_fault _ (aligned_ne_fault _ _ _ _)
  | reset | statrd reg idx | lpfDesign taps cutoff | decStep k x | decRun k run | ncoStep x | ncoRun run
  | carrySplit chunk | tsAnchor | tsHeader n | frmAccum run | frmSend bytes => exact ⟨_, rfl⟩

theorem pktValue_eq {s : State} {p : Nat} (h : s.cfg.pkt = some p ∨ (s.cfg.pkt = none ∧ p = 0)) :
    s.pktValue = p := by
  obtain h | ⟨h, rfl⟩ := h <;> simp [State.pktValue, h]

/-- Settles O44: the operations without a stop are total, FRM.FLUSH stops outside its precondition, and PUSH stops in
its flush loop alone. -/
theorem nothingStopsButTheFlush : Obligations.NothingStopsButTheFlush := by
  unfold Obligations.NothingStopsButTheFlush
  intro i s p hp
  obtain rfl := pktValue_eq hp
  refine ⟨fun hi hshort => hi ▸ exec_frmFlush_fault hshort, ?_⟩
  by_cases hi : MayStop i
  · cases i with
    | push data => exact (exec_push_next_or_fault data s).imp_right fun h => .inr ⟨⟨data, rfl⟩, h⟩
    | frmFlush =>
      obtain hshort | hle := Nat.lt_or_ge s.acc.length (s.pktValue - 1)
      · exact .inr (.inl ⟨rfl, hshort⟩)
      · exact .inl (exec_frmFlush_of_le hle)
    | _ => exact hi.elim
  · exact .inl (exec_total hi s)

end Sys2Proof.Proofs

/-! Rounding is exact where the exact result is representable (spec/30_encoding.md R90, R91; 00_scope R14 `rnd32`). -/

namespace Sys2Proof.Proofs

open Sys2Proof.Machine Sys2Proof.Laws

/-! ## Reading a pattern -/

/-- The exponent field of a pattern. -/
def expField (f : Fmt) (w : Nat) : Nat := w / 2 ^ f.fb % 2 ^ f.eb

/-- The fraction field of a pattern. -/
def fracField (f : Fmt) (w : Nat) : Nat := w % 2 ^ f.fb

/-- A pattern without its sign bit. -/
def magBits (f : Fmt) (w : Nat) : Nat := w % 2 ^ (f.eb + f.fb)

theorem expField_lt (f : Fmt) (w : Nat) : expField f w < 2 ^ f.eb := Nat.mod_lt _ (Nat.two_pow_pos _)

theorem fracField_lt (f : Fmt) (w : Nat) : fracField f w < 2 ^ f.fb := Nat.mod_lt _ (Nat.two_pow_pos _)

theorem magBits_lt (f : Fmt) (w : Nat) : magBits f w < 2 ^ (f.eb + f.fb) :=
  Nat.mod_lt _ (Nat.two_pow_pos _)

theorem magBits_eq_fields (f : Fmt) (w : Nat) :
    magBits f w = expField f w * 2 ^ f.fb + fracField f w := by
  rw [magBits, Nat.add_comm f.eb, pow_add, Nat.mod_mul, expField, fracField]
  ring

theorem expField_eq_magBits (f : Fmt) (w : Nat) : expField f w = magBits f w / 2 ^ f.fb := by
  rw [magBits_eq_fields, Nat.mul_comm, Nat.mul_add_div (Nat.two_pow_pos _),
    Nat.div_eq_of_lt (fracField_lt f w), Nat.add_zero]

theorem fracField_eq_magBits (f : Fmt) (w : Nat) : fracField f w = magBits f w % 2 ^ f.fb := by
  rw [magBits_eq_fields, Nat.mul_comm, Nat.mul_add_mod, Nat.mod_eq_of_lt (fracField_lt f w)]

theorem unpack_fields (f : Fmt) (w : Nat) :
    unpack f w =
      if expField f w = fmtMaxField f then
        if fracField f w = 0 then .inf (decide (w / 2 ^ (f.eb + f.fb) % 2 = 1)) else .nan
      else if expField f w = 0 then
        .fin (decide (w / 2 ^ (f.eb + f.fb) % 2 = 1)) (fracField f w) (fmtMinExp f)
      else
        .fin (decide (w / 2 ^ (f.eb + f.fb) % 2 = 1)) (2 ^ f.fb + fracField f w)
          (expField f w - 1 + fmtMinExp f) := rfl

/-- A finite pattern: the fraction field at the least exponent where the exponent field is 0, else with the hidden bit
and one exponent more for each step of the exponent field from 1 on. -/
theorem unpack_eq_fin {f : Fmt} {w m : Nat} {neg : Bool} {e : Int} :
    unpack f w = .fin neg m e ↔
      decide (w / 2 ^ (f.eb + f.fb) % 2 = 1) = neg ∧ expField f w ≠ fmtMaxField f ∧
        ((expField f w = 0 ∧ fracField f w = m ∧ fmtMinExp f = e) ∨
          (expField f w ≠ 0 ∧ 2 ^ f.fb + fracField f w = m ∧ (expField f w : Int) - 1 + fmtMinExp f = e)) := by
  rw [unpack_fields]
  by_cases hmax : expField f w = fmtMaxField f
  · by_cases hfrac : fracField f w = 0 <;> simp [hmax, hfrac]
  · simp only [hmax, if_false, ne_eq, not_false_eq_true, true_and]
    by_cases hsub : expField f w = 0 <;> simp [hsub]

/-- The significand of a finite pattern is below `2^(fb+1)`, and below `2^fb` at the least exponent alone. -/
theorem unpack_canonical {f : Fmt} {w m : Nat} {neg : Bool} {e : Int}
    (h : unpack f w = .fin neg m e) :
    m < 2 ^ (f.fb + 1) ∧ fmtMinExp f ≤ e ∧ (m < 2 ^ f.fb → e = fmtMinExp f) := by
  have hfrac := fracField_lt f w
  obtain ⟨-, -, ⟨-, rfl, rfl⟩ | ⟨hfield, rfl, rfl⟩⟩ := unpack_eq_fin.mp h
  · exact ⟨by omega, le_refl _, fun _ => rfl⟩
  · exact ⟨by omega, by omega, fun hlt => by omega⟩

/-- Packing a finite pattern's significand and exponent gives its magnitude back. -/
theorem packMag_unpack {f : Fmt} {w m : Nat} {neg : Bool} {e : Int} (h : unpack f w = .fin neg m e) :
    packMag f m e = magBits f w := by
  have hlt := expField_lt f w
  rw [magBits_eq_fields, packMag]
  obtain ⟨-, hmax, ⟨hfield, rfl, rfl⟩ | ⟨hfield, rfl, rfl⟩⟩ := unpack_eq_fin.mp h
  · rw [if_pos (fracField_lt f w), hfield, Nat.zero_mul, Nat.zero_add]
  · have hexp : ((expField f w : Int) - 1 + fmtMinExp f - fmtMinExp f).toNat + 1 = expField f w := by
      omega
    have hfin : ¬ fmtMaxField f ≤ expField f w := by
      unfold fmtMaxField at hmax ⊢
      omega
    simp only [hexp]
    rw [if_neg (by omega), if_neg hfin, Nat.add_sub_cancel_left]

theorem withSign_eq (f : Fmt) (neg : Bool) (mag : Nat) :
    withSign f neg mag = 2 ^ (f.eb + f.fb) * neg.toNat + mag := by
  cases neg <;> simp [withSign]

theorem withSign_lt (f : Fmt) (neg : Bool) {mag : Nat} (h : mag < 2 ^ (f.eb + f.fb)) :
    withSign f neg mag < 2 ^ (f.eb + f.fb + 1) := by
  rw [withSign, pow_succ]
  split <;> omega

/-- A finite pattern's magnitude under another sign reads as its significand and exponent under that sign. -/
theorem unpack_withSign {f : Fmt} {w m : Nat} {neg : Bool} {e : Int} (neg' : Bool)
    (h : unpack f w = .fin neg m e) : unpack f (withSign f neg' (magBits f w)) = .fin neg' m e := by
  have hlt := magBits_lt f w
  have hmag : magBits f (withSign f neg' (magBits f w)) = magBits f w := by
    rw [withSign_eq, magBits, Nat.mul_add_mod, Nat.mod_eq_of_lt hlt]
  have hsign : decide (withSign f neg' (magBits f w) / 2 ^ (f.eb + f.fb) % 2 = 1) = neg' := by
    rw [withSign_eq, Nat.mul_add_div (Nat.two_pow_pos _), Nat.div_eq_of_lt hlt, Nat.add_zero]
    cases neg' <;> rfl
  obtain ⟨-, hfields⟩ := unpack_eq_fin.mp h
  rw [expField_eq_magBits, fracField_eq_magBits] at hfields
  rw [unpack_eq_fin, expField_eq_magBits, fracField_eq_magBits, hmag]
  exact ⟨hsign, hfields⟩

/-! ## Rounding an exact ratio -/

/-- `scaleBy` divides by the power of two. -/
theorem scaleBy_ratio (n d : Nat) (e : Int) :
    ((scaleBy n d e).1 : ℚ) / (scaleBy n d e).2 = (n : ℚ) / d / 2 ^ e := by
  unfold scaleBy
  split
  · next h =>
    obtain ⟨k, rfl⟩ := Int.eq_ofNat_of_zero_le h
    simp [div_div]
  · next h =>
    obtain ⟨k, hk⟩ := Int.eq_ofNat_of_zero_le (a := -e) (by omega)
    obtain rfl : e = -k := by omega
    simp [div_eq_mul_inv, mul_right_comm]

theorem divNearest_of_ratio {n d q : Nat} (hd : 0 < d) (h : (n : ℚ) / d = q) : divNearest n d = q := by
  have hn : n = q * d := by
    rw [div_eq_iff (by positivity)] at h
    exact_mod_cast h
  have hdiv : n / d = q := by rw [hn, Nat.mul_div_cancel _ hd]
  have hmod : n % d = 0 := by rw [hn, Nat.mul_mod_left]
  simp only [divNearest, hdiv, hmod]
  rw [if_neg (by omega)]

theorem log_two_eq {r : ℚ} {x : Int} (hle : 2 ^ x ≤ r) (hlt : r < 2 ^ (x + 1)) : Int.log 2 r = x := by
  have hr : 0 < r := lt_of_lt_of_le (by positivity) hle
  have hge : x ≤ Int.log 2 r := (Int.zpow_le_iff_le_log Nat.one_lt_two hr).mp (by exact_mod_cast hle)
  have hlt' : Int.log 2 r < x + 1 := (Int.lt_zpow_iff_log_lt Nat.one_lt_two hr).mp (by exact_mod_cast hlt)
  omega

theorem two_zpow_log2_le {n : Nat} (hn : 0 < n) : (2 : ℚ) ^ (n.log2 : Int) ≤ n := by
  rw [zpow_natCast]
  exact_mod_cast Nat.log2_self_le hn.ne'

theorem lt_two_zpow_log2_succ (n : Nat) : (n : ℚ) < 2 ^ ((n.log2 : Int) + 1) := by
  exact_mod_cast Nat.lt_log2_self

theorem log_two_mul_zpow {m : Nat} (hm : 0 < m) (e : Int) :
    Int.log 2 ((m : ℚ) * 2 ^ e) = m.log2 + e := by
  have hpow : (0 : ℚ) < 2 ^ e := by positivity
  apply log_two_eq
  · rw [zpow_add₀ two_ne_zero]
    exact mul_le_mul_of_nonneg_right (two_zpow_log2_le hm) hpow.le
  · rw [add_right_comm, zpow_add₀ two_ne_zero]
    exact mul_lt_mul_of_pos_right (lt_two_zpow_log2_succ m) hpow

/-- `ratLog2` is the floor of the logarithm of the ratio. -/
theorem ratLog2_eq_log {n d : Nat} (hn : 0 < n) (hd : 0 < d) :
    ratLog2 n d = Int.log 2 ((n : ℚ) / d) := by
  have hdpos : (0 : ℚ) < d := by exact_mod_cast hd
  obtain ⟨k, hk⟩ : ∃ k : Int, (n.log2 : Int) - d.log2 = k := ⟨_, rfl⟩
  have hlow : (2 : ℚ) ^ (k - 1) ≤ n / d := by
    rw [le_div_iff₀ hdpos]
    calc (2 : ℚ) ^ (k - 1) * d ≤ 2 ^ (k - 1) * 2 ^ ((d.log2 : Int) + 1) := by
          gcongr
          exact (lt_two_zpow_log2_succ d).le
      _ = 2 ^ (n.log2 : Int) := by
          rw [← zpow_add₀ two_ne_zero]
          congr 1
          omega
      _ ≤ n := two_zpow_log2_le hn
  have hhigh : (n : ℚ) / d < 2 ^ (k + 1) := by
    rw [div_lt_iff₀ hdpos]
    calc (n : ℚ) < 2 ^ ((n.log2 : Int) + 1) := lt_two_zpow_log2_succ n
      _ = 2 ^ (k + 1) * 2 ^ (d.log2 : Int) := by
          rw [← zpow_add₀ two_ne_zero]
          congr 1
          omega
      _ ≤ 2 ^ (k + 1) * d := by
          gcongr
          exact two_zpow_log2_le hd
  have hscale : (scaleBy n d k).2 ≤ (scaleBy n d k).1 ↔ (2 : ℚ) ^ k ≤ n / d := by
    have hden : (0 : ℚ) < (scaleBy n d k).2 := by exact_mod_cast scaleBy_den_pos n hd k
    rw [← Nat.cast_le (α := ℚ), ← one_le_div hden, scaleBy_ratio, one_le_div (by positivity)]
  simp only [ratLog2, hk, hscale]
  split
  · next hle => exact (log_two_eq hle hhigh).symm
  · next hnot => exact (log_two_eq hlow (by rw [sub_add_cancel]; exact lt_of_not_ge hnot)).symm

/-- The exponent `roundMag` rounds a finite pattern's value at is the pattern's own. -/
theorem roundExp_eq {f : Fmt} {w m : Nat} {neg : Bool} {e : Int} (h : unpack f w = .fin neg m e)
    (hm : 0 < m) : max ((m.log2 : Int) + e - f.fb) (fmtMinExp f) = e := by
  obtain ⟨hlt, hmin, hsub⟩ := unpack_canonical h
  have hlog : m.log2 < f.fb + 1 := (Nat.log2_lt hm.ne').mpr hlt
  by_cases hm' : m < 2 ^ f.fb
  · have := hsub hm'
    omega
  · have : f.fb ≤ m.log2 := (Nat.le_log2 hm.ne').mpr (Nat.le_of_not_lt hm')
    omega

/-- Rounding a ratio that is a finite pattern's value gives that pattern's magnitude. -/
theorem roundMag_of_ratio {f : Fmt} {w m n d : Nat} {neg : Bool} {e : Int}
    (h : unpack f w = .fin neg m e) (hd : 0 < d) (hratio : (n : ℚ) / d = m * 2 ^ e) :
    roundMag f n d = magBits f w := by
  obtain ⟨hlt, -, -⟩ := unpack_canonical h
  have hdne : (d : ℚ) ≠ 0 := by exact_mod_cast hd.ne'
  have hpow : (2 : ℚ) ^ e ≠ 0 := by positivity
  rw [← packMag_unpack h, roundMag]
  obtain rfl | hn := Nat.eq_zero_or_pos n
  · have hm : m = 0 := by simpa [hpow] using hratio.symm
    rw [if_pos rfl, packMag, hm, if_pos (Nat.two_pow_pos _)]
  · have hm : 0 < m := by
      refine Nat.pos_of_ne_zero fun hm => ?_
      rw [hm, Nat.cast_zero, zero_mul, div_eq_zero_iff] at hratio
      simp [hn.ne', hdne] at hratio
    have hexp : max (ratLog2 n d - f.fb) (fmtMinExp f) = e := by
      rw [ratLog2_eq_log hn hd, hratio, log_two_mul_zpow hm, roundExp_eq h hm]
    have hquot : divNearest (scaleBy n d e).1 (scaleBy n d e).2 = m := by
      refine divNearest_of_ratio (scaleBy_den_pos n hd e) ?_
      rw [scaleBy_ratio, hratio, mul_div_cancel_right₀ _ hpow]
    simp only [hexp, hquot]
    rw [if_neg hn.ne', if_neg hlt.ne]

/-- Rounding a value that a finite pattern has gives that value, under the sign it is rounded with. -/
theorem unpack_roundFin {f : Fmt} {w m n : Nat} {neg neg' : Bool} {e k : Int}
    (h : unpack f w = .fin neg m e) (hval : (n : ℚ) * 2 ^ k = m * 2 ^ e) :
    unpack f (roundFin f neg' n k) = .fin neg' m e ∧
      roundFin f neg' n k < 2 ^ (f.eb + f.fb + 1) := by
  have hmag : roundMag f (scaleBy n 1 (-k)).1 (scaleBy n 1 (-k)).2 = magBits f w := by
    refine roundMag_of_ratio h (scaleBy_den_pos n Nat.one_pos _) ?_
    rw [scaleBy_ratio, ← hval, Nat.cast_one, div_one, zpow_neg, div_inv_eq_mul]
  simp only [roundFin, hmag]
  exact ⟨unpack_withSign neg' h, withSign_lt f neg' (magBits_lt f w)⟩

/-! ## Binary32 -/

theorem f32Value_eq_some {w : W32} {v : ℚ} :
    f32Value w = some v ↔
      ∃ neg m e, unpack fmt32 w.toNat = .fin neg m e ∧ (signed neg m : ℚ) * 2 ^ e = v := by
  unfold f32Value
  split <;> simp_all

theorem signed_cast (neg : Bool) (n : Nat) : ((signed neg n : Int) : ℚ) = (if neg then -1 else 1) * n := by
  cases neg <;> simp [signed]

theorem abs_signed (neg : Bool) (n : Nat) : |((signed neg n : Int) : ℚ)| = n := by
  cases neg <;> simp [signed]

/-- A word rounded from an exact value that some word has is finite and has that value. -/
theorem f32Value_roundFin {c : W32} {v : ℚ} {neg : Bool} {n : Nat} {k : Int} (hc : f32Value c = some v)
    (hval : (signed neg n : ℚ) * 2 ^ k = v) :
    f32Value (BitVec.ofNat 32 (roundFin fmt32 neg n k)) = some v := by
  obtain ⟨neg', m, e, hunpack, hv⟩ := f32Value_eq_some.mp hc
  have hpow (x : Int) : |(2 : ℚ) ^ x| = 2 ^ x := abs_of_pos (by positivity)
  have hmag : (n : ℚ) * 2 ^ k = m * 2 ^ e := by
    have := congrArg abs (hval.trans hv.symm)
    rwa [abs_mul, abs_mul, abs_signed, abs_signed, hpow, hpow] at this
  obtain ⟨hround, hlt⟩ := unpack_roundFin (neg' := neg) hunpack hmag
  refine f32Value_eq_some.mpr ⟨neg, m, e, ?_, ?_⟩
  · rwa [BitVec.toNat_ofNat, Nat.mod_eq_of_lt (b := 2 ^ 32) hlt]
  · rw [← hval, signed_cast, signed_cast, mul_assoc, mul_assoc, hmag]

theorem alignTo_value {e0 e : Int} (neg : Bool) (m : Nat) (h : e0 ≤ e) :
    (alignTo e0 neg m e : ℚ) * 2 ^ e0 = signed neg m * 2 ^ e := by
  obtain ⟨k, rfl⟩ := Int.le.dest h
  rw [alignTo, signed_cast, signed_cast, add_sub_cancel_left, Int.toNat_natCast, zpow_add₀ two_ne_zero,
    zpow_natCast]
  push_cast
  ring

theorem signed_natAbs (z : Int) : signed (decide (z < 0)) z.natAbs = z := by
  obtain hneg | hpos := lt_or_ge z 0
  · rw [decide_eq_true hneg, signed, if_pos rfl, Int.ofNat_natAbs_of_nonpos hneg.le, neg_neg]
  · rw [decide_eq_false hpos.not_gt, signed, if_neg Bool.false_ne_true, Int.natAbs_of_nonneg hpos]

theorem f32Value_zero (neg : Bool) : f32Value (BitVec.ofNat 32 (withSign fmt32 neg 0)) = some 0 := by
  refine f32Value_eq_some.mpr ⟨neg, 0, fmtMinExp fmt32, ?_, ?_⟩
  · cases neg <;> decide
  · cases neg <;> simp [signed]

/-- The sum is exact where the exact sum is representable (41 R154). -/
theorem f32Add_exact {a b c : W32} {va vb vc : ℚ} (ha : f32Value a = some va) (hb : f32Value b = some vb)
    (hc : f32Value c = some vc) (hsum : va + vb = vc) : f32Value (f32Add a b) = some vc := by
  obtain ⟨sa, ma, ea, hua, rfl⟩ := f32Value_eq_some.mp ha
  obtain ⟨sb, mb, eb, hub, rfl⟩ := f32Value_eq_some.mp hb
  obtain ⟨z, hz⟩ : ∃ z, alignTo (min ea eb) sa ma ea + alignTo (min ea eb) sb mb eb = z := ⟨_, rfl⟩
  have hval : (z : ℚ) * 2 ^ min ea eb = vc := by
    rw [← hz, Int.cast_add, add_mul, alignTo_value _ _ (min_le_left _ _), alignTo_value _ _ (min_le_right _ _),
      hsum]
  simp only [f32Add, hua, hub, addPattern, hz]
  by_cases hzero : z = 0
  · rw [if_pos hzero, ← hval, hzero, Int.cast_zero, zero_mul]
    exact f32Value_zero _
  · rw [if_neg hzero]
    exact f32Value_roundFin hc (by rw [signed_natAbs, hval])

/-- The product is exact where the exact product is representable (41 R154). -/
theorem f32Mul_exact {a b c : W32} {va vb vc : ℚ} (ha : f32Value a = some va) (hb : f32Value b = some vb)
    (hc : f32Value c = some vc) (hprod : va * vb = vc) : f32Value (f32Mul a b) = some vc := by
  obtain ⟨sa, ma, ea, hua, rfl⟩ := f32Value_eq_some.mp ha
  obtain ⟨sb, mb, eb, hub, rfl⟩ := f32Value_eq_some.mp hb
  have hsign : (signed (sa ^^ sb) (ma * mb) : ℚ) = signed sa ma * signed sb mb := by
    cases sa <;> cases sb <;> simp [signed]
  simp only [f32Mul, hua, hub, mulPattern]
  refine f32Value_roundFin hc ?_
  rw [hsign, zpow_add₀ two_ne_zero, ← hprod]
  ring

/-! ## The default dot product -/

theorem dotDefault_append {h w : List W32} (hlen : h.length = w.length) (c x : W32) :
    dotDefault (h ++ [c]) (w ++ [x]) = f32Add (dotDefault h w) (f32Mul c x) := by
  rw [dotDefault, List.zip_append hlen, List.foldl_append]
  rfl

theorem numFirDot_default {p : Params} (hp : p.num.firDot = .default) (h : List W32) (w : List Sample) :
    numFirDot p h w = ⟨dotDefault h (w.map Sample.re), dotDefault h (w.map Sample.im)⟩ := by
  rw [numFirDot, hp]

/-- Each part of the dot product is the dot product of that part of the samples. -/
theorem part_numFirDot {p : Params} (hp : p.num.firDot = .default) (h : List W32) (w : List Sample)
    {part : Sample → W32} (hpart : part = Sample.re ∨ part = Sample.im) :
    part (numFirDot p h w) = dotDefault h (w.map part) := by
  rw [numFirDot_default hp]
  obtain rfl | rfl := hpart <;> rfl

/-- Some finite word has that value. -/
def Representable (q : ℚ) : Prop := ∃ word : W32, f32Value word = some q

/-- The words are finite and have these values. -/
def HaveValues (ws : List W32) (qs : List ℚ) : Prop :=
  List.Forall₂ (fun w q => f32Value w = some q) ws qs

theorem haveValues_of_map_eq {ws : List W32} {qs : List ℚ} (h : ws.map f32Value = qs.map some) :
    HaveValues ws qs := by
  rw [← List.forall₂_eq_eq_eq, List.forall₂_map_left_iff, List.forall₂_map_right_iff] at h
  exact h

/-- The exact products. -/
def products (hs xs : List ℚ) : List ℚ := List.zipWith (fun a b => a * b) hs xs

/-- Adding rounded products to `acc` is exact where every product and every partial sum is representable. -/
theorem foldl_products_exact {h w : List W32} {hs xs : List ℚ} {acc : W32} {a : ℚ}
    (hh : HaveValues h hs) (hw : HaveValues w xs) (hacc : f32Value acc = some a)
    (hprods : ∀ q ∈ products hs xs, Representable q)
    (hsums : ∀ j ≤ (products hs xs).length, Representable (a + ((products hs xs).take j).sum)) :
    f32Value ((h.zip w).foldl (fun acc hw => f32Add acc (f32Mul hw.1 hw.2)) acc) =
      some (a + (products hs xs).sum) := by
  induction hh generalizing w xs acc a with
  | nil => simpa [products] using hacc
  | @cons c q cs qs hc hcs ih =>
    cases hw with
    | nil => simpa [products] using hacc
    | @cons x v ws vs hx hws =>
      have hcons : products (q :: qs) (v :: vs) = q * v :: products qs vs := rfl
      rw [hcons] at hprods hsums ⊢
      obtain ⟨pword, hpword⟩ := hprods (q * v) List.mem_cons_self
      obtain ⟨sword, hsword⟩ := hsums 1 (by simp)
      rw [List.take_succ_cons, List.take_zero, List.sum_singleton] at hsword
      have hadd := f32Add_exact hacc (f32Mul_exact hc hx hpword rfl) hsword rfl
      rw [List.zip_cons_cons, List.foldl_cons, List.sum_cons, ← add_assoc]
      refine ih hws hadd (fun r hr => hprods r (List.mem_cons_of_mem _ hr)) fun j hj => ?_
      have hsum := hsums (j + 1) (by simpa using hj)
      rwa [List.take_succ_cons, List.sum_cons, ← add_assoc] at hsum

/-- The default dot product starts from +0.0 (41 R154). -/
theorem dotDefault_exact {h w : List W32} {hs xs : List ℚ} (hh : HaveValues h hs) (hw : HaveValues w xs)
    (hprods : ∀ q ∈ products hs xs, Representable q)
    (hsums : ∀ j ≤ (products hs xs).length, Representable ((products hs xs).take j).sum) :
    f32Value (dotDefault h w) = some (products hs xs).sum := by
  have hfold := foldl_products_exact hh hw (f32Value_zero false) hprods (by simpa only [zero_add] using hsums)
  rwa [zero_add] at hfold

/-- Settles O8: a rounding whose exact result some word has gives that word's magnitude, and the dot product is a chain
of such sums and products. -/
theorem exactArithmeticIsExact : Obligations.ExactArithmeticIsExact := by
  unfold Obligations.ExactArithmeticIsExact
  refine ⟨fun a b c va vb vc ha hb hc => ⟨f32Add_exact ha hb hc, f32Mul_exact ha hb hc⟩, ?_⟩
  intro p h w hp hlen
  refine ⟨numFirDot_default hp [] [], fun c x => ?_, ?_⟩
  · simp only [numFirDot_default hp, List.map_append, List.map_singleton]
    rw [dotDefault_append (by simpa using hlen), dotDefault_append (by simpa using hlen)]
  · rintro part hs xs ps hpart hhs hxs rfl hprods hsums
    rw [part_numFirDot hp h w hpart]
    rw [← Function.comp_def, ← List.map_map] at hxs
    exact dotDefault_exact (haveValues_of_map_eq hhs) (haveValues_of_map_eq hxs) hprods hsums

end Sys2Proof.Proofs

/-! Rounding never passes a finite word (spec/30_encoding.md R90, R91; 00_scope R14): an exact value at most a finite
word's rounds to at most that word, and finite words are ordered as their values. -/

namespace Sys2Proof.Proofs

open Sys2Proof.Machine Sys2Proof.Laws

/-! ## Values and magnitudes -/

/-- The exact value of a finite reading. -/
def finVal (neg : Bool) (m : Nat) (e : Int) : ℚ := signed neg m * 2 ^ e

theorem finVal_false (m : Nat) (e : Int) : finVal false m e = m * 2 ^ e := by
  simp [finVal, signed]

theorem abs_finVal (neg : Bool) (m : Nat) (e : Int) : |finVal neg m e| = finVal false m e := by
  rw [finVal, abs_mul, abs_signed, abs_of_pos (by positivity), finVal_false]

/-- Finite readings compare as their values. -/
theorem ltVal_fin (sa sb : Bool) (ma mb : Nat) (ea eb : Int) :
    ltVal (.fin sa ma ea) (.fin sb mb eb) = decide (finVal sa ma ea < finVal sb mb eb) := by
  have hpow : (0 : ℚ) < 2 ^ min ea eb := by positivity
  rw [ltVal, decide_eq_decide, finVal, finVal, ← alignTo_value sa ma (min_le_left ea eb),
    ← alignTo_value sb mb (min_le_right ea eb), mul_lt_mul_iff_left₀ hpow, Int.cast_lt]

/-- A finite pattern's magnitude grows by `2^fb` with each step of the exponent. -/
theorem magBits_of_fin {f : Fmt} {w m : Nat} {neg : Bool} {e : Int} (h : unpack f w = .fin neg m e) :
    magBits f w = (e - fmtMinExp f).toNat * 2 ^ f.fb + m := by
  rw [magBits_eq_fields]
  obtain ⟨-, -, ⟨hfield, rfl, rfl⟩ | ⟨hfield, rfl, rfl⟩⟩ := unpack_eq_fin.mp h
  · simp [hfield]
  · obtain ⟨k, hk⟩ := Nat.exists_eq_succ_of_ne_zero hfield
    rw [hk, show ((k.succ : Int) - 1 + fmtMinExp f - fmtMinExp f).toNat = k by omega, Nat.succ_mul,
      Nat.add_assoc]

theorem magBits_lt_inf_of_fin {f : Fmt} {w m : Nat} {neg : Bool} {e : Int}
    (h : unpack f w = .fin neg m e) : magBits f w < fmtInf f := by
  obtain ⟨-, hmax, -⟩ := unpack_eq_fin.mp h
  have hfield : expField f w + 1 ≤ fmtMaxField f := by
    have := expField_lt f w
    unfold fmtMaxField at hmax ⊢
    omega
  calc magBits f w < (expField f w + 1) * 2 ^ f.fb := by
        rw [magBits_eq_fields, Nat.add_one_mul]
        exact Nat.add_lt_add_left (fracField_lt f w) _
    _ ≤ fmtInf f := Nat.mul_le_mul_right _ hfield

/-- A pattern below infinity is finite. -/
theorem exists_fin_of_magBits_lt {f : Fmt} {w : Nat} (h : magBits f w < fmtInf f) :
    ∃ neg m e, unpack f w = .fin neg m e := by
  have hmax : expField f w ≠ fmtMaxField f := by
    intro heq
    rw [magBits_eq_fields, heq, fmtInf] at h
    omega
  rw [unpack_fields, if_neg hmax]
  split <;> exact ⟨_, _, _, rfl⟩

/-- A pattern not above infinity is no NaN. -/
theorem unpack_ne_nan_of_magBits_le {f : Fmt} {w : Nat} (h : magBits f w ≤ fmtInf f) :
    unpack f w ≠ .nan := by
  rw [unpack_fields]
  split
  · next hmax =>
    rw [magBits_eq_fields, hmax, fmtInf] at h
    rw [if_pos (by omega)]
    simp
  · split <;> simp

/-- A finite pattern above the least exponent has its hidden bit. -/
theorem two_pow_le_of_fin {f : Fmt} {w m : Nat} {neg : Bool} {e : Int} (h : unpack f w = .fin neg m e)
    (he : fmtMinExp f < e) : 2 ^ f.fb ≤ m := by
  by_contra hlow
  have := (unpack_canonical h).2.2 (Nat.lt_of_not_le hlow)
  omega

theorem finVal_false_mono {m m' : Nat} (h : m ≤ m') (e : Int) : finVal false m e ≤ finVal false m' e := by
  rw [finVal_false, finVal_false]
  gcongr

theorem finVal_false_add (m j : Nat) (e : Int) : finVal false m (e + j) = finVal false (m * 2 ^ j) e := by
  rw [finVal_false, finVal_false, add_comm, zpow_add₀ two_ne_zero, zpow_natCast]
  push_cast
  ring

/-- Of two finite patterns the one with the smaller magnitude has the smaller value. -/
theorem finVal_le_of_magBits_le {f : Fmt} {w w' m m' : Nat} {neg neg' : Bool} {e e' : Int}
    (h : unpack f w = .fin neg m e) (h' : unpack f w' = .fin neg' m' e')
    (hle : magBits f w ≤ magBits f w') : finVal false m e ≤ finVal false m' e' := by
  obtain ⟨hm, hmin, -⟩ := unpack_canonical h
  obtain ⟨hm', hmin', -⟩ := unpack_canonical h'
  rw [magBits_of_fin h, magBits_of_fin h'] at hle
  rw [pow_succ] at hm hm'
  obtain hlt | rfl | hgt := lt_trichotomy e e'
  · obtain ⟨j, rfl⟩ : ∃ j : Nat, e' = e + (j + 1 : Nat) := ⟨(e' - e - 1).toNat, by omega⟩
    rw [finVal_false_add]
    refine finVal_false_mono ?_ e
    calc m ≤ 2 ^ f.fb * 2 ^ 1 := hm.le
      _ ≤ m' * 2 ^ (j + 1) := by
        gcongr
        · exact two_pow_le_of_fin h' (by omega)
        · exact one_le_two
        · omega
  · exact finVal_false_mono (by omega) e
  · have hlow := two_pow_le_of_fin h (by omega)
    have hsteps := Nat.mul_le_mul_right (2 ^ f.fb)
      (show (e' - fmtMinExp f).toNat + 1 ≤ (e - fmtMinExp f).toNat by omega)
    rw [Nat.add_one_mul] at hsteps
    omega

/-! ## Bounds on a rounding -/

theorem divNearest_le {n d N : Nat} (hd : 0 < d) (h : (n : ℚ) / d ≤ N) : divNearest n d ≤ N := by
  have hn : n ≤ N * d := by
    rw [div_le_iff₀ (by exact_mod_cast hd)] at h
    exact_mod_cast h
  have hdiv : n / d ≤ N := Nat.div_le_of_le_mul (by rwa [Nat.mul_comm])
  have hmod := Nat.mod_add_div n d
  unfold divNearest
  dsimp only
  split
  · next hup =>
    refine Nat.lt_of_le_of_ne hdiv fun heq => ?_
    rw [heq, Nat.mul_comm] at hmod
    omega
  · exact hdiv

/-- The exponent `roundMag` rounds at. -/
def roundExp (f : Fmt) (n d : Nat) : Int := max (ratLog2 n d - f.fb) (fmtMinExp f)

/-- The significand `roundMag` rounds to, before a carry out of it is packed. -/
def roundSig (f : Fmt) (n d : Nat) : Nat :=
  divNearest (scaleBy n d (roundExp f n d)).1 (scaleBy n d (roundExp f n d)).2

theorem roundMag_eq {f : Fmt} {n d : Nat} (hn : 0 < n) :
    roundMag f n d =
      if roundSig f n d = 2 ^ (f.fb + 1) then packMag f (2 ^ f.fb) (roundExp f n d + 1)
      else packMag f (roundSig f n d) (roundExp f n d) := by
  rw [roundMag, if_neg hn.ne']
  rfl

/-- The significand is at most any natural number that the scaled ratio is at most. -/
theorem roundSig_le {f : Fmt} {n d N : Nat} (hd : 0 < d)
    (h : (n : ℚ) / d ≤ N * 2 ^ roundExp f n d) : roundSig f n d ≤ N := by
  refine divNearest_le (scaleBy_den_pos n hd _) ?_
  rw [scaleBy_ratio]
  exact (div_le_iff₀ (by positivity)).mpr h

theorem roundSig_le_two_pow {f : Fmt} {n d : Nat} (hn : 0 < n) (hd : 0 < d) :
    roundSig f n d ≤ 2 ^ (f.fb + 1) := by
  refine roundSig_le hd ?_
  have hlt : (n : ℚ) / d < 2 ^ (ratLog2 n d + 1) := by
    rw [ratLog2_eq_log hn hd]
    exact_mod_cast Int.lt_zpow_succ_log_self (R := ℚ) Nat.one_lt_two _
  have hexp : ratLog2 n d + 1 ≤ ((f.fb + 1 : Nat) : Int) + roundExp f n d := by
    unfold roundExp
    omega
  calc (n : ℚ) / d ≤ 2 ^ (ratLog2 n d + 1) := hlt.le
    _ ≤ 2 ^ (((f.fb + 1 : Nat) : Int) + roundExp f n d) := zpow_le_zpow_right₀ one_le_two hexp
    _ = ((2 ^ (f.fb + 1) : Nat) : ℚ) * 2 ^ roundExp f n d := by
      rw [zpow_add₀ two_ne_zero, zpow_natCast]
      push_cast
      rfl

theorem packMag_le (f : Fmt) (m : Nat) (e : Int) :
    packMag f m e ≤ (e - fmtMinExp f).toNat * 2 ^ f.fb + m := by
  unfold packMag
  split
  · exact Nat.le_add_left _ _
  · next hm =>
    have hstep := Nat.add_one_mul (e - fmtMinExp f).toNat (2 ^ f.fb)
    dsimp only
    split
    · next hmax =>
      have := Nat.mul_le_mul_right (2 ^ f.fb) hmax
      rw [fmtInf]
      omega
    · omega

theorem packMag_le_inf {f : Fmt} {m : Nat} (heb : 0 < f.eb) (hm : m < 2 ^ (f.fb + 1)) (e : Int) :
    packMag f m e ≤ fmtInf f := by
  unfold packMag
  rw [pow_succ] at hm
  split
  · next hlt =>
    have hmax : 1 ≤ fmtMaxField f := by
      have := Nat.one_lt_two_pow heb.ne'
      unfold fmtMaxField
      omega
    have := Nat.mul_le_mul_right (2 ^ f.fb) hmax
    rw [fmtInf]
    omega
  · dsimp only
    split
    · exact le_refl _
    · next hmax =>
      have := Nat.mul_le_mul_right (2 ^ f.fb) (Nat.lt_of_not_le hmax)
      rw [Nat.add_one_mul] at this
      rw [fmtInf]
      omega

/-- A rounded magnitude is no NaN's. -/
theorem roundMag_le_inf {f : Fmt} {n d : Nat} (heb : 0 < f.eb) (hd : 0 < d) :
    roundMag f n d ≤ fmtInf f := by
  obtain rfl | hn := Nat.eq_zero_or_pos n
  · simp [roundMag]
  · rw [roundMag_eq hn]
    split
    · exact packMag_le_inf heb (Nat.pow_lt_pow_succ Nat.one_lt_two) _
    · next hne => exact packMag_le_inf heb (lt_of_le_of_ne (roundSig_le_two_pow hn hd) hne) _

/-- The packed significand, a carry out of it included. -/
theorem roundMag_le_packed {f : Fmt} {n d : Nat} (hn : 0 < n) :
    roundMag f n d ≤ (roundExp f n d - fmtMinExp f).toNat * 2 ^ f.fb + roundSig f n d := by
  rw [roundMag_eq hn]
  split
  · next hcarry =>
    have hmin : fmtMinExp f ≤ roundExp f n d := le_max_right _ _
    refine (packMag_le _ _ _).trans_eq ?_
    rw [hcarry, show (roundExp f n d + 1 - fmtMinExp f).toNat = (roundExp f n d - fmtMinExp f).toNat + 1 by
      omega, Nat.add_one_mul, pow_succ]
    ring
  · exact packMag_le _ _ _

/-- A ratio that is at most a finite pattern's value rounds to at most that pattern's magnitude. -/
theorem roundMag_le_magBits {f : Fmt} {w m n d : Nat} {neg : Bool} {e : Int}
    (h : unpack f w = .fin neg m e) (hd : 0 < d) (hratio : (n : ℚ) / d ≤ finVal false m e) :
    roundMag f n d ≤ magBits f w := by
  rw [finVal_false] at hratio
  obtain ⟨hlt, hmin, -⟩ := unpack_canonical h
  obtain rfl | hn := Nat.eq_zero_or_pos n
  · simp [roundMag]
  have hpos : (0 : ℚ) < (n : ℚ) / d := by positivity
  have hm : 0 < m := by
    refine Nat.pos_of_ne_zero fun h0 => ?_
    rw [h0, Nat.cast_zero, zero_mul] at hratio
    exact absurd hpos (not_lt.mpr hratio)
  have hexp : roundExp f n d ≤ e := by
    have hlog : ratLog2 n d ≤ m.log2 + e := by
      rw [ratLog2_eq_log hn hd, ← log_two_mul_zpow hm]
      exact Int.log_mono_right hpos hratio
    have := (Nat.log2_lt hm.ne').mpr hlt
    unfold roundExp
    omega
  refine (roundMag_le_packed hn).trans ?_
  rw [magBits_of_fin h]
  obtain heq | hless := hexp.eq_or_lt
  · rw [heq]
    exact Nat.add_le_add_left (roundSig_le hd (by rwa [heq])) _
  · have hbase : fmtMinExp f ≤ roundExp f n d := le_max_right _ _
    have hlow := two_pow_le_of_fin h (by omega)
    have hsig := roundSig_le_two_pow (f := f) hn hd
    have hsteps := Nat.mul_le_mul_right (2 ^ f.fb)
      (show (roundExp f n d - fmtMinExp f).toNat + 1 ≤ (e - fmtMinExp f).toNat by omega)
    rw [Nat.add_one_mul] at hsteps
    rw [pow_succ] at hsig
    omega

end Sys2Proof.Proofs

/-! The default phase advance (spec/42_frequency_shifter.md R174): from a phase that is no NaN and a finite step it
leads to a phase within `[−PI64, PI64]`. -/

namespace Sys2Proof.Proofs

open Sys2Proof.Machine Sys2Proof.Laws

/-! ## The binary64 sum -/

theorem magBits_withSign (f : Fmt) (neg : Bool) {mag : Nat} (h : mag < 2 ^ (f.eb + f.fb)) :
    magBits f (withSign f neg mag) = mag := by
  rw [withSign_eq, magBits, Nat.mul_add_mod, Nat.mod_eq_of_lt h]

theorem fmtInf_lt (f : Fmt) : fmtInf f < 2 ^ (f.eb + f.fb) := by
  rw [pow_add]
  exact Nat.mul_lt_mul_of_pos_right (Nat.sub_lt (Nat.two_pow_pos _) Nat.one_pos) (Nat.two_pow_pos _)

/-- A magnitude not above infinity, under a sign, is no NaN. -/
theorem unpack_withSign_ne_nan {f : Fmt} (neg : Bool) {mag : Nat} (h : mag ≤ fmtInf f) :
    unpack f (withSign f neg mag) ≠ .nan :=
  unpack_ne_nan_of_magBits_le (by rwa [magBits_withSign f neg (h.trans_lt (fmtInf_lt f))])

/-- What a rounding is made of: the sign, and the magnitude of the exact value rounded. -/
theorem exists_roundFin (f : Fmt) (neg : Bool) (m : Nat) (e : Int) :
    ∃ n d : Nat, 0 < d ∧ (n : ℚ) / d = finVal false m e ∧
      roundFin f neg m e = withSign f neg (roundMag f n d) := by
  refine ⟨_, _, scaleBy_den_pos m Nat.one_pos (-e), ?_, rfl⟩
  rw [scaleBy_ratio, finVal_false, Nat.cast_one, div_one, zpow_neg, div_inv_eq_mul]

theorem roundFin_zero (f : Fmt) (neg : Bool) (e : Int) : roundFin f neg 0 e = withSign f neg 0 := by
  have hzero : (scaleBy 0 1 (-e)).1 = 0 := by
    unfold scaleBy
    split <;> simp
  simp only [roundFin, hzero, roundMag, if_true]

/-- The sum of two finite values is their exact sum, rounded. -/
theorem addPattern_fin (f : Fmt) (sa sb : Bool) (ma mb : Nat) (ea eb : Int) :
    ∃ neg n e, finVal neg n e = finVal sa ma ea + finVal sb mb eb ∧
      addPattern f (.fin sa ma ea) (.fin sb mb eb) = some (roundFin f neg n e) := by
  obtain ⟨z, hz⟩ : ∃ z, alignTo (min ea eb) sa ma ea + alignTo (min ea eb) sb mb eb = z := ⟨_, rfl⟩
  have hval : (z : ℚ) * 2 ^ min ea eb = finVal sa ma ea + finVal sb mb eb := by
    rw [← hz, Int.cast_add, add_mul, alignTo_value _ _ (min_le_left _ _),
      alignTo_value _ _ (min_le_right _ _), finVal, finVal]
  simp only [addPattern, hz]
  by_cases hzero : z = 0
  · refine ⟨sa && sb, 0, 0, ?_, ?_⟩
    · rw [← hval, hzero]
      simp [finVal, signed]
    · rw [if_pos hzero, roundFin_zero]
  · refine ⟨decide (z < 0), z.natAbs, min ea eb, ?_, if_neg hzero⟩
    rw [finVal, signed_natAbs, hval]

theorem toNat_ofNat_withSign (neg : Bool) {mag : Nat} (h : mag ≤ fmtInf fmt64) :
    (BitVec.ofNat 64 (withSign fmt64 neg mag)).toNat = withSign fmt64 neg mag := by
  rw [BitVec.toNat_ofNat]
  exact Nat.mod_eq_of_lt (withSign_lt fmt64 neg (h.trans_lt (fmtInf_lt fmt64)))

/-- The sum of two finite words: the rounded magnitude of their exact sum, under its sign. -/
theorem f64Add_fin {a b : F64} {sa sb : Bool} {ma mb : Nat} {ea eb : Int}
    (ha : unpack fmt64 a.toNat = .fin sa ma ea) (hb : unpack fmt64 b.toNat = .fin sb mb eb) :
    ∃ (neg : Bool) (n d : Nat), 0 < d ∧
      (if neg then -1 else 1) * ((n : ℚ) / d) = finVal sa ma ea + finVal sb mb eb ∧
      (f64Add a b).toNat = withSign fmt64 neg (roundMag fmt64 n d) := by
  obtain ⟨neg, m, e, hval, hadd⟩ := addPattern_fin fmt64 sa sb ma mb ea eb
  obtain ⟨n, d, hd, hratio, hround⟩ := exists_roundFin fmt64 neg m e
  refine ⟨neg, n, d, hd, ?_, ?_⟩
  · rw [hratio, ← hval, finVal_false, finVal, signed_cast, mul_assoc]
  · simp only [f64Add, ha, hb, hadd, result64, hround]
    exact toNat_ofNat_withSign neg (roundMag_le_inf (by decide) hd)

/-- The sum of an infinity and a finite word is that infinity. -/
theorem f64Add_inf {a b : F64} {sa sb : Bool} {mb : Nat} {eb : Int}
    (ha : unpack fmt64 a.toNat = .inf sa) (hb : unpack fmt64 b.toNat = .fin sb mb eb) :
    (f64Add a b).toNat = withSign fmt64 sa (fmtInf fmt64) := by
  simp only [f64Add, ha, hb, addPattern, result64]
  exact toNat_ofNat_withSign sa (le_refl _)

theorem isNan64_eq_false {w : F64} : isNan64 w = false ↔ unpack fmt64 w.toNat ≠ .nan := by
  simp [isNan64]

theorem f64IsFinite_iff {w : F64} :
    f64IsFinite w = true ↔ ∃ neg m e, unpack fmt64 w.toNat = .fin neg m e := by
  unfold f64IsFinite
  split <;> simp_all

/-- A word that is no NaN, added to a finite word, gives no NaN. -/
theorem f64Add_not_nan {a b : F64} (ha : isNan64 a = false) (hb : f64IsFinite b = true) :
    isNan64 (f64Add a b) = false := by
  rw [isNan64_eq_false] at ha ⊢
  obtain ⟨sb, mb, eb, hb⟩ := f64IsFinite_iff.mp hb
  cases hval : unpack fmt64 a.toNat with
  | nan => exact absurd hval ha
  | inf sa =>
    rw [f64Add_inf hval hb]
    exact unpack_withSign_ne_nan sa (le_refl _)
  | fin sa ma ea =>
    obtain ⟨neg, n, d, hd, -, hsum⟩ := f64Add_fin hval hb
    rw [hsum]
    exact unpack_withSign_ne_nan neg (roundMag_le_inf (by decide) hd)

/-- A pattern with its sign set is below no positive one. -/
theorem ltVal_of_negative {f : Fmt} {mag m : Nat} {e : Int} (h : mag < 2 ^ (f.eb + f.fb)) :
    ltVal (.fin false m e) (unpack f (withSign f true mag)) = false := by
  have hsign : decide (withSign f true mag / 2 ^ (f.eb + f.fb) % 2 = 1) = true := by
    rw [withSign_eq, Nat.mul_add_div (Nat.two_pow_pos _), Nat.div_eq_of_lt h]
    rfl
  cases hval : unpack f (withSign f true mag) with
  | nan => rfl
  | inf neg =>
    rw [unpack_fields, hsign] at hval
    split_ifs at hval
    cases hval
    rfl
  | fin neg m' e' =>
    obtain rfl : true = neg := hsign.symm.trans (unpack_eq_fin.mp hval).1
    rw [ltVal_fin, decide_eq_false_iff_not, not_lt]
    have : (0 : ℚ) ≤ m' * 2 ^ e' := by positivity
    have : (0 : ℚ) ≤ m * 2 ^ e := by positivity
    simp only [finVal, signed]
    push_cast
    linarith

/-- A sum whose exact value is at most a positive finite word's is not above that word. -/
theorem f64Add_not_above {a b c : F64} {sa sb : Bool} {ma mb mc : Nat} {ea eb ec : Int}
    (ha : unpack fmt64 a.toNat = .fin sa ma ea) (hb : unpack fmt64 b.toNat = .fin sb mb eb)
    (hc : unpack fmt64 c.toNat = .fin false mc ec)
    (hle : finVal sa ma ea + finVal sb mb eb ≤ finVal false mc ec) : f64Lt c (f64Add a b) = false := by
  obtain ⟨neg, n, d, hd, hval, hsum⟩ := f64Add_fin ha hb
  have hinf := (roundMag_le_inf (f := fmt64) (n := n) (by decide) hd).trans_lt (fmtInf_lt fmt64)
  rw [f64Lt, hc, hsum]
  cases neg with
  | true => exact ltVal_of_negative hinf
  | false =>
    rw [← hval, if_neg Bool.false_ne_true, one_mul] at hle
    have hmag : magBits fmt64 (withSign fmt64 false (roundMag fmt64 n d)) ≤ magBits fmt64 c.toNat := by
      rw [magBits_withSign fmt64 false hinf]
      exact roundMag_le_magBits hc hd hle
    obtain ⟨s, m, e, hfin⟩ := exists_fin_of_magBits_lt (hmag.trans_lt (magBits_lt_inf_of_fin hc))
    rw [hfin, ltVal_fin, decide_eq_false_iff_not, not_lt]
    calc finVal s m e ≤ |finVal s m e| := le_abs_self _
      _ = finVal false m e := abs_finVal s m e
      _ ≤ finVal false mc ec := finVal_le_of_magBits_le hfin hc hmag

/-! ## The wrap loops -/

/-- A phase within R174's bound: `[−PI64, PI64]`, no NaN. -/
def PhaseWithin (phase : F64) : Prop :=
  isNan64 phase = false ∧ f64Lt pi64 phase = false ∧ f64Lt phase (f64Neg pi64) = false

theorem unpack_pi64 : unpack fmt64 pi64.toNat = .fin false 0x1921FB54442D18 (-51) := by decide

theorem unpack_neg_pi64 : unpack fmt64 (f64Neg pi64).toNat = .fin true 0x1921FB54442D18 (-51) := by decide

theorem unpack_twoPi64 : unpack fmt64 twoPi64.toNat = .fin false 0x1921FB54442D18 (-50) := by decide

theorem phaseWithin_zero : PhaseWithin 0 := ⟨by decide, by decide +kernel, by decide +kernel⟩

theorem boundedPhase_within (free : F64) : PhaseWithin (boundedPhase free) := by
  unfold boundedPhase
  split
  · exact phaseWithin_zero
  · next h => simpa [PhaseWithin, not_or] using h

/-- A turn up from below `−PI64` ends not above `PI64`: the exact sum is below it, and rounding does not pass it. -/
theorem f64Add_twoPi64_not_above {phase : F64} (h : f64Lt phase (f64Neg pi64) = true) :
    f64Lt pi64 (f64Add phase twoPi64) = false := by
  rw [f64Lt, unpack_neg_pi64] at h
  cases hval : unpack fmt64 phase.toNat with
  | nan => simp [hval, ltVal] at h
  | inf neg =>
    obtain rfl : neg = true := by simpa [hval, ltVal] using h
    rw [f64Lt, unpack_pi64, f64Add_inf hval unpack_twoPi64]
    exact ltVal_of_negative (fmtInf_lt fmt64)
  | fin neg m e =>
    rw [hval, ltVal_fin, decide_eq_true_eq] at h
    refine f64Add_not_above hval unpack_twoPi64 unpack_pi64 ?_
    have hturn : finVal false 0x1921FB54442D18 (-50) =
        finVal false 0x1921FB54442D18 (-51) - finVal true 0x1921FB54442D18 (-51) := by
      norm_num [finVal, signed]
    linarith

theorem wrapDown_eq_some {n : Nat} {phase phase' : F64} (h : wrapDown n phase = some phase')
    (hnan : isNan64 phase = false) : isNan64 phase' = false ∧ f64Lt pi64 phase' = false := by
  induction n generalizing phase with
  | zero => cases h
  | succ n ih =>
    rw [wrapDown] at h
    split_ifs at h with habove
    · exact ih h (f64Add_not_nan hnan (by decide))
    · cases h
      exact ⟨hnan, by simpa using habove⟩

theorem wrapUp_eq_some {n : Nat} {phase phase' : F64} (h : wrapUp n phase = some phase')
    (hnan : isNan64 phase = false) (hhigh : f64Lt pi64 phase = false) : PhaseWithin phase' := by
  induction n generalizing phase with
  | zero => cases h
  | succ n ih =>
    rw [wrapUp] at h
    split_ifs at h with hbelow
    · exact ih h (f64Add_not_nan hnan (by decide)) (f64Add_twoPi64_not_above hbelow)
    · cases h
      exact ⟨hnan, hhigh, by simpa using hbelow⟩

/-- The default advance by a finite step leads within the bound from every phase that is no NaN. -/
theorem phaseAdvanceDefault_within {phase step : F64} (hphase : isNan64 phase = false)
    (hstep : f64IsFinite step = true) : PhaseWithin (phaseAdvanceDefault phase step) := by
  unfold phaseAdvanceDefault
  split
  · exact boundedPhase_within _
  · next down hdown =>
    obtain ⟨hnan, hhigh⟩ := wrapDown_eq_some hdown (f64Add_not_nan hphase hstep)
    split
    · exact boundedPhase_within _
    · next up hup => exact wrapUp_eq_some hup hnan hhigh

end Sys2Proof.Proofs

/-! NCO.STEP and NCO.RUN alone (spec/42_frequency_shifter.md R170 to R178): the words pass unchanged under
`NCO.BYPASS`; else sample `i` is rotated by the phase after `i` advances, and the phase alone is written. -/

namespace Sys2Proof.Proofs

open Sys2Proof.Machine Sys2Proof.Laws

/-! ## The bypass -/

theorem f64IsZero_iff {w : F64} : f64IsZero w = true ↔ magBits fmt64 w.toNat = 0 := by
  have hfields := magBits_eq_fields fmt64 w.toNat
  constructor
  · intro h
    unfold f64IsZero at h
    split at h
    · next neg m e hval =>
      obtain rfl : m = 0 := by simpa using h
      obtain ⟨-, -, ⟨hexp, hfrac, -⟩ | ⟨-, hsig, -⟩⟩ := unpack_eq_fin.mp hval
      · rw [hfields, hexp, hfrac, Nat.zero_mul]
      · have := Nat.two_pow_pos fmt64.fb
        omega
    · cases h
    · cases h
  · intro h
    have hval : unpack fmt64 w.toNat =
        .fin (decide (w.toNat / 2 ^ (fmt64.eb + fmt64.fb) % 2 = 1)) 0 (fmtMinExp fmt64) := by
      rw [unpack_eq_fin, expField_eq_magBits, fracField_eq_magBits, h]
      exact ⟨rfl, by decide, .inl ⟨rfl, rfl, rfl⟩⟩
    rw [f64IsZero, hval]
    rfl

/-- The bypass test holds for the two zero patterns alone (10_state R32). -/
theorem bypassOf_iff (w : F64) : bypassOf w = true ↔ w = 0x0000000000000000 ∨ w = 0x8000000000000000 := by
  have hw := w.isLt
  have hplus : (0x0000000000000000 : F64).toNat = 0 := rfl
  have hminus : (0x8000000000000000 : F64).toNat = 2 ^ 63 := rfl
  rw [bypassOf, f64IsZero_iff, show magBits fmt64 w.toNat = w.toNat % 2 ^ 63 from rfl, ← BitVec.toNat_inj,
    ← BitVec.toNat_inj, hplus, hminus]
  omega

theorem exec_ncoStep_eq (x : Sample) (s : State) :
    exec (.ncoStep x) s = .next ((ncoStep x s).2.respond (.samples [(ncoStep x s).1])) := rfl

theorem exec_ncoRun_eq (run : List Sample) (s : State) :
    exec (.ncoRun run) s = .next ((ncoRun run s).2.respond (.samples (ncoRun run s).1)) := rfl

theorem exec_ncoStep_bypassed {s : State} (h : s.nco.bypass = true) (x : Sample) :
    exec (.ncoStep x) s = .next (s.respond (.samples [x])) := by
  rw [exec_ncoStep_eq, ncoStep_bypassed h]

theorem exec_ncoRun_bypassed {s : State} (h : s.nco.bypass = true) (run : List Sample) :
    exec (.ncoRun run) s = .next (s.respond (.samples run)) := by
  rw [exec_ncoRun_eq, ncoRun_bypassed h]

/-- Settles O9: both operations hand the words back under the bypass, and the bypass test reads a magnitude of 0. -/
theorem bypassPassesEveryWordThrough : Obligations.BypassPassesEveryWordThrough :=
  ⟨fun _ x run h => ⟨exec_ncoStep_bypassed h x, exec_ncoRun_bypassed h run⟩, bypassOf_iff⟩

/-! ## NCO.STEP -/

theorem exec_ncoStep_rotates {s : State} (h : s.nco.bypass = false) (x : Sample) :
    exec (.ncoStep x) s =
      .next ((s.setPhase (numPhaseAdvance s.params s.nco.phase s.nco.step)).respond
        (.samples [numRotate s.params x s.nco.phase])) := by
  rw [exec_ncoStep_eq, ncoStep_rotates h]

/-- Settles O10: the next state of NCO.STEP without bypass, written out. -/
theorem ncoStepRotatesThenAdvances : Obligations.NcoStepRotatesThenAdvances :=
  fun _ x h => ⟨_, exec_ncoStep_rotates h x, rfl, rfl, rfl⟩

/-! ## NCO.RUN -/

/-- The phase after `n` advances (42 R175). -/
def phaseAfter (p : Params) (step : F64) (n : Nat) (phase : F64) : F64 :=
  (fun ph => numPhaseAdvance p ph step)^[n] phase

theorem phaseAfter_succ (p : Params) (step : F64) (n : Nat) (phase : F64) :
    phaseAfter p step (n + 1) phase = phaseAfter p step n (numPhaseAdvance p phase step) :=
  Function.iterate_succ_apply _ n phase

/-- The run advances the phase once per sample. -/
theorem ncoEach_state {s : State} (h : s.nco.bypass = false) (run : List Sample) :
    (ncoEach run s).2 = s.setPhase (phaseAfter s.params s.nco.step run.length s.nco.phase) := by
  induction run generalizing s with
  | nil => rfl
  | cons x xs ih =>
    simp only [ncoEach_cons, ncoStep_rotates h, List.length_cons, phaseAfter_succ]
    rw [ih (by exact h), setPhase_setPhase]
    rfl

/-- Each sample is rotated by the phase the samples before it have led to. -/
theorem ncoEach_getElem? {s : State} (h : s.nco.bypass = false) (run : List Sample) (i : Nat) :
    (ncoEach run s).1[i]? =
      run[i]?.map fun x => numRotate s.params x (phaseAfter s.params s.nco.step i s.nco.phase) := by
  induction run generalizing s i with
  | nil => rfl
  | cons x xs ih =>
    simp only [ncoEach_cons, ncoStep_rotates h]
    cases i with
    | zero => rfl
    | succ i =>
      rw [List.getElem?_cons_succ, List.getElem?_cons_succ, phaseAfter_succ]
      exact ih (by exact h) i

/-- NCO.RUN of no samples returns none and changes nothing, bypassed or not. -/
theorem exec_ncoRun_nil (s : State) : exec (.ncoRun []) s = .next (s.respond (.samples [])) := by
  cases h : s.nco.bypass with
  | true => exact exec_ncoRun_bypassed h []
  | false =>
    rw [exec_ncoRun_eq, ncoRun_each h]
    rfl

/-- Settles O11, by induction on the run: what each sample is rotated by, and where the phase is led. -/
theorem ncoRunRotatesEachSample : Obligations.NcoRunRotatesEachSample := by
  unfold Obligations.NcoRunRotatesEachSample
  refine ⟨exec_ncoRun_nil, fun s run step h hstep => ?_⟩
  subst hstep
  refine ⟨_, _, exec_ncoRun_eq run s, rfl, (ncoRun_frame run s).2, ?_⟩
  rw [ncoRun_each h, ncoEach_state h]
  exact ⟨ncoEach_getElem? h run, rfl, rfl⟩

/-! ## Splitting a run -/

theorem ncoEach_append (a b : List Sample) (s : State) :
    ncoEach (a ++ b) s =
      ((ncoEach a s).1 ++ (ncoEach b (ncoEach a s).2).1, (ncoEach b (ncoEach a s).2).2) := by
  induction a generalizing s with
  | nil => rfl
  | cons x xs ih => simp [ncoEach_cons, ih]

theorem ncoRun_append (a b : List Sample) (s : State) :
    ncoRun (a ++ b) s =
      ((ncoRun a s).1 ++ (ncoRun b (ncoRun a s).2).1, (ncoRun b (ncoRun a s).2).2) := by
  cases h : s.nco.bypass with
  | true => simp [ncoRun_bypassed h]
  | false =>
    have hkept : (ncoEach a s).2.nco.bypass = false := by rw [ncoEach_state h, setPhase_nco, h]
    rw [ncoRun_each h, ncoRun_each h, ncoRun_each hkept, ncoEach_append]

theorem ncoStep_respond (x : Sample) (s : State) (r : Resp) :
    ncoStep x (s.respond r) = ((ncoStep x s).1, (ncoStep x s).2.respond r) := by
  unfold ncoStep
  rw [respond_nco]
  split <;> rfl

theorem ncoEach_respond (run : List Sample) (s : State) (r : Resp) :
    ncoEach run (s.respond r) = ((ncoEach run s).1, (ncoEach run s).2.respond r) := by
  induction run generalizing s with
  | nil => rfl
  | cons x xs ih => simp only [ncoEach_cons, ncoStep_respond, ih]

/-- What NCO.RUN does and returns does not depend on the response held. -/
theorem ncoRun_respond (run : List Sample) (s : State) (r : Resp) :
    ncoRun run (s.respond r) = ((ncoRun run s).1, (ncoRun run s).2.respond r) := by
  unfold ncoRun
  rw [respond_nco, ncoEach_respond]
  split <;> rfl

/-- Settles O12: the second part of the run goes on from the state the first part leaves, its response aside. -/
theorem ncoRunIndependentOfChunking : Obligations.NcoRunIndependentOfChunking := by
  unfold Obligations.NcoRunIndependentOfChunking
  intro a b ya yb s t u ha hya hb hyb
  rw [exec_ncoRun_eq] at ha hb
  cases ha
  cases hb
  cases hya
  cases hyb
  rw [exec_ncoRun_eq, ncoRun_append, ncoRun_respond]
  rfl

end Sys2Proof.Proofs


/-! The oscillator's phase along the steps of the block driven from its command port (spec/10_state.md R30,
42_frequency_shifter.md R174): START sets it to 0, PUSH advances it, and no other command but RESET writes it. -/

namespace Sys2Proof.Proofs

open Sys2Proof.Machine Sys2Proof.Laws

theorem phaseWithin_of_phaseBounded {s : State} (h : PhaseBounded s) : PhaseWithin s.nco.phase := by
  obtain ⟨-, -, -, hwithin⟩ := h
  exact hwithin

/-- Taking bytes off the command port keeps the invariant. -/
theorem phaseBounded_takePort {s s' : State} (h : PhaseBounded s) (hs' : s' = { s with port := s'.port }) :
    PhaseBounded s' := by
  rw [hs']
  exact h

theorem phaseBounded_setWaiting {s : State} (h : PhaseBounded s) (w : Bool) :
    PhaseBounded (s.setWaiting w) := h

/-- A state that is not running meets the invariant with any step of the oscillator. -/
theorem phaseBounded_of_not_running {s t : State} (h : PhaseBounded s) (hparams : t.params = s.params)
    (hbench : t.bench = s.bench) (hrun : t.run ≠ .running) (hphase : PhaseWithin t.nco.phase) :
    PhaseBounded t := by
  obtain ⟨hdefault, hnone, -⟩ := h
  exact ⟨hparams ▸ hdefault, hbench.trans hnone, fun hr => absurd hr hrun, hphase⟩

/-! ## PUSH -/

theorem phaseAfter_within {p : Params} {step phase : F64} (hdefault : p.num.phaseAdvance = .default)
    (hstep : f64IsFinite step = true) (h : PhaseWithin phase) (n : Nat) :
    PhaseWithin (phaseAfter p step n phase) := by
  induction n generalizing phase with
  | zero => exact h
  | succ n ih =>
    rw [phaseAfter_succ, numPhaseAdvance, hdefault]
    exact ih (phaseAdvanceDefault_within h.1 hstep)

theorem ncoRun_phaseWithin {s : State} (run : List Sample) (hdefault : s.params.num.phaseAdvance = .default)
    (hstep : f64IsFinite s.nco.step = true) (h : PhaseWithin s.nco.phase) :
    PhaseWithin (ncoRun run s).2.nco.phase := by
  cases hb : s.nco.bypass with
  | true => rwa [ncoRun_bypassed hb]
  | false =>
    rw [ncoRun_each hb, ncoEach_state hb]
    exact phaseAfter_within hdefault hstep h run.length

theorem decRun_nco (k : Stage) (run : List Sample) (s : State) : (decRun k run s).2.nco = s.nco := by
  rw [decRun_state, setDec_nco]

/-- The one write of PUSH to the oscillator is its NCO.RUN. -/
theorem pushData_nco {data : List Byte} {s t : State} (h : pushData data s = .ok () t) :
    ∃ run, t.nco = (ncoRun run (carrySplit data s).2).2.nco := by
  obtain ⟨ys, u, hthrough, hflush⟩ := bind_eq_ok.mp h
  obtain ⟨x0, x1, y1, y2, rfl⟩ := pushThrough_eq_ok hthrough
  refine ⟨x0, ?_⟩
  rw [flushLoop_frame hflush, frmAccum_nco, decRun_nco, decRun_nco, decRun_nco]

theorem phaseBounded_pushData {data : List Byte} {s t : State} (h : PhaseBounded s)
    (hrun : s.run = .running) (hpush : pushData data s = .ok () t) : PhaseBounded t := by
  obtain ⟨run, hnco⟩ := pushData_nco hpush
  obtain ⟨hdefault, hnone, hfinite, hwithin⟩ := h
  have hphase : PhaseWithin t.nco.phase :=
    hnco ▸ ncoRun_phaseWithin (s := (carrySplit data s).2) run hdefault (hfinite hrun) hwithin
  rw [pushData_frame hpush]
  exact ⟨hdefault, hnone, hfinite, hphase⟩

theorem exec_push_phaseBounded {data : List Byte} {s t : State} (h : PhaseBounded s)
    (hexec : exec (.push data) s = .next t) : PhaseBounded t := by
  obtain ⟨-, rfl⟩ | ⟨u, hrun, hok, rfl⟩ | ⟨n, -, rfl⟩ := exec_push_next hexec
  · exact h
  · have hu : PhaseBounded u := phaseBounded_pushData h hrun hok
    exact hu
  · have hphase : PhaseWithin s.nco.phase := phaseWithin_of_phaseBounded h
    exact phaseBounded_of_not_running h rfl rfl RunState.noConfusion hphase

/-! ## START -/

theorem openAndBuild_phase (c : Settings) (s : State) :
    (openAndBuild c s).nco.phase = s.nco.phase ∨ (openAndBuild c s).nco.phase = 0 := by
  unfold openAndBuild
  dsimp only
  split
  · exact .inr rfl
  · exact .inl (by simp)

/-- START sets the phase to 0 where it builds the pipeline, and leaves it elsewhere (46 R253). -/
theorem startUp_phase (s : State) :
    (startUp s).nco.phase = s.nco.phase ∨ (startUp s).nco.phase = 0 := by
  have hload (c : Settings) (u : State) : (loadDerived c u).nco.phase = u.nco.phase := rfl
  unfold startUp startFromAddr
  dsimp only
  split
  · exact .inl rfl
  · next c _ =>
    split
    · exact .inl rfl
    · split
      · exact .inl (by simp)
      · split
        · exact .inl (by simp)
        · split
          · simpa [hload] using openAndBuild_phase c (loadDerived c (askParsable c.addr s).2)
          · exact .inl (by simp [hload])

theorem exec_start_phaseWithin {s t : State} (h : PhaseWithin s.nco.phase)
    (hexec : exec .start s = .next t) : PhaseWithin t.nco.phase := by
  obtain ⟨-, hexec⟩ | ⟨-, rfl⟩ := acceptedIn_eq_next.mp hexec
  · cases hexec
    obtain hkept | hzero := startUp_phase s
    · rwa [hkept]
    · rw [hzero]
      exact phaseWithin_zero
  · exact h

theorem exec_start_phaseBounded {s t : State} (h : PhaseBounded s)
    (hexec : exec .start s = .next t) : PhaseBounded t := by
  have hphase := exec_start_phaseWithin (phaseWithin_of_phaseBounded h) hexec
  obtain ⟨-, rfl⟩ | ⟨-, e, code, u, rfl, -, hu⟩ | ⟨c, -, hadmits, host, rfl⟩ := exec_start_next hexec
  · exact h
  · rw [hu] at hphase ⊢
    exact phaseBounded_of_not_running h rfl rfl RunState.noConfusion hphase
  · obtain ⟨-, hstep⟩ := (Bool.and_eq_true _ _).mp hadmits.finite
    obtain ⟨hdefault, hnone, -⟩ := h
    exact ⟨hdefault, hnone, fun _ => hstep, hphase⟩

/-! ## Every step -/

/-- Every host command keeps the phase within its bound. -/
theorem hostCommand_keeps_phaseBounded {i : Instr} {s t : State} (hi : isHostCommand i = true)
    (h : PhaseBounded s) (hexec : exec i s = .next t) : PhaseBounded t := by
  have hphase := phaseWithin_of_phaseBounded h
  cases i with
  | reset =>
    cases hexec
    exact phaseBounded_of_not_running h rfl rfl RunState.noConfusion phaseWithin_zero
  | cfgwr reg value => obtain rfl | rfl := acceptedIn_next_cases hexec <;> exact h
  | start => exact exec_start_phaseBounded h hexec
  | push data => exact exec_push_phaseBounded h hexec
  | eos | cancel =>
    obtain rfl | rfl := acceptedIn_next_cases hexec
    · exact phaseBounded_of_not_running h rfl rfl RunState.noConfusion hphase
    · exact h
  | reanchor => obtain rfl | rfl := acceptedIn_next_cases hexec <;> exact h
  | statrd reg idx => cases hexec; exact h
  | _ => cases hi

/-- Settles O13: with nothing on the bench a step is waiting, a signal, a refusal or one host command, and a phase
that PUSH advances stays within the bound. -/
theorem phaseStaysBounded : Obligations.PhaseStaysBounded := by
  unfold Obligations.PhaseStaysBounded
  intro s t h hstep
  have ⟨_, hbench, _⟩ := h
  obtain ⟨-, rfl⟩ | ⟨-, -, hreset⟩ | ⟨-, -, -, hsignal⟩ | ⟨w, s', hfetch, rfl⟩ |
    ⟨i, s', hfetch, hexec, -⟩ | ⟨i, s', u, -, -, -, rfl⟩ := step_cases hstep
  · exact h
  · exact hostCommand_keeps_phaseBounded rfl h hreset
  · exact hostCommand_keeps_phaseBounded (s := s.settleTermination) rfl h hsignal
  · have hport : PhaseBounded s' := phaseBounded_takePort h (fetch_refuse_port hbench hfetch)
    exact hport
  · obtain ⟨hhost, hs'⟩ := fetch_run_hostCommand hbench hfetch
    have hport : PhaseBounded s' := phaseBounded_takePort h hs'
    exact hostCommand_keeps_phaseBounded hhost (phaseBounded_setWaiting hport false) hexec
  · exact phaseBounded_setWaiting h true

end Sys2Proof.Proofs

/-! The sample converter and the carry-over alone (spec/43_sample_converter.md R190 to R194; 00_scope R14): CARRY.SPLIT
cuts the carry and the chunk after the last whole sample, CONV.S16 and CONV.F32 take a run of whole samples block by
block. -/

namespace Sys2Proof.Proofs

open Sys2Proof.Machine Sys2Proof.Laws

/-! ## CARRY.SPLIT -/

theorem exec_carrySplit_eq (chunk : List Byte) (s : State) :
    exec (.carrySplit chunk) s =
      .next ((carrySplit chunk s).2.respond (.bytes (carrySplit chunk s).1)) := rfl

theorem carrySplit_released_append_carry (chunk : List Byte) (s : State) :
    (carrySplit chunk s).1 ++ (carrySplit chunk s).2.carry = s.carry ++ chunk := by
  rw [carrySplit_eq, List.take_append_drop]

theorem carrySplit_released_length (chunk : List Byte) (s : State) :
    (carrySplit chunk s).1.length = (s.carry.length + chunk.length) / s.der.bps * s.der.bps := by
  rw [carrySplit_eq, List.length_take_of_le (Nat.div_mul_le_self _ _), List.length_append]

theorem carrySplit_carry_length (chunk : List Byte) (s : State) :
    (carrySplit chunk s).2.carry.length = (s.carry.length + chunk.length) % s.der.bps := by
  rw [carrySplit_eq, List.length_drop, ← Nat.mod_eq_sub_div_mul, List.length_append]

/-- Settles O14: the released bytes are the longest whole-sample prefix of the carry and the chunk, and the carry is
what follows it. -/
theorem carrySplitReleasesWholeSamples : Obligations.CarrySplitReleasesWholeSamples := by
  unfold Obligations.CarrySplitReleasesWholeSamples
  rintro s chunk bps rfl hbps
  exact ⟨_, _, exec_carrySplit_eq chunk s, rfl, carrySplit_released_append_carry chunk s,
    carrySplit_released_length chunk s, carrySplit_carry_length chunk s, carrySplit_carry_lt chunk hbps, rfl⟩

/-- Splitting a longer chunk is splitting its first part and then the rest: the first part releases whole samples, which
a cut further on does not move. -/
theorem carrySplit_append (a b : List Byte) (s : State) :
    carrySplit (a ++ b) s =
      ((carrySplit a s).1 ++ (carrySplit b (carrySplit a s).2).1, (carrySplit b (carrySplit a s).2).2) := by
  obtain ⟨out, hout⟩ : ∃ out, (carrySplit a s).1 = out := ⟨_, rfl⟩
  obtain ⟨rest, hrest⟩ : ∃ rest, (carrySplit a s).2.carry ++ b = rest := ⟨_, rfl⟩
  have hsplit : s.carry ++ (a ++ b) = out ++ rest := by
    rw [← hout, ← hrest, ← List.append_assoc, ← carrySplit_released_append_carry, List.append_assoc]
  have hwhole : s.der.bps ∣ out.length := ⟨_, by rw [← hout, carrySplit_released_length, Nat.mul_comm]⟩
  have hcut : (out ++ rest).length / s.der.bps * s.der.bps =
      out.length + rest.length / s.der.bps * s.der.bps := by
    rw [List.length_append, Nat.add_div_of_dvd_right hwhole, Nat.add_mul, Nat.div_mul_cancel hwhole]
  rw [carrySplit_eq (a ++ b), hsplit, hcut, List.take_length_add_append, List.drop_length_add_append,
    carrySplit_eq b, hrest, hout]
  rfl

/-- What CARRY.SPLIT does and returns does not depend on the response held. -/
theorem carrySplit_respond (chunk : List Byte) (s : State) (r : Resp) :
    carrySplit chunk (s.respond r) = ((carrySplit chunk s).1, (carrySplit chunk s).2.respond r) := rfl

/-- Settles O15: the second split goes on from the carry the first leaves, its response aside. -/
theorem carrySplitIndependentOfChunking : Obligations.CarrySplitIndependentOfChunking := by
  unfold Obligations.CarrySplitIndependentOfChunking
  intro s t u a b oa ob _ ha hoa hb hob
  rw [exec_carrySplit_eq] at ha hb
  cases ha
  cases hb
  cases hoa
  cases hob
  rw [exec_carrySplit_eq, carrySplit_append, carrySplit_respond]
  rfl

/-! ## The value of a 16-bit integer -/

/-- A pattern put together from a sign, an exponent field of at least 1 and a fraction reads as them. -/
theorem unpack_of_fields {f : Fmt} {field frac : Nat} (neg : Bool) (hfrac : frac < 2 ^ f.fb)
    (hfield : field + 1 < fmtMaxField f) :
    unpack f (withSign f neg ((field + 1) * 2 ^ f.fb + frac)) =
      .fin neg (2 ^ f.fb + frac) (field + fmtMinExp f) := by
  obtain ⟨mag, hmag⟩ : ∃ mag, (field + 1) * 2 ^ f.fb + frac = mag := ⟨_, rfl⟩
  have hlt : mag < 2 ^ (f.eb + f.fb) := by
    refine lt_trans ?_ (fmtInf_lt f)
    calc mag < (field + 1 + 1) * 2 ^ f.fb := by
          rw [← hmag, Nat.add_one_mul (field + 1)]
          exact Nat.add_lt_add_left hfrac _
      _ ≤ fmtInf f := Nat.mul_le_mul_right _ hfield
  have hself : magBits f mag = mag := Nat.mod_eq_of_lt hlt
  have hdiv : expField f mag = field + 1 := by
    rw [expField_eq_magBits, hself, ← hmag, Nat.mul_comm, Nat.mul_add_div (Nat.two_pow_pos _),
      Nat.div_eq_of_lt hfrac, Nat.add_zero]
  have hmod : fracField f mag = frac := by
    rw [fracField_eq_magBits, hself, ← hmag, Nat.mul_comm, Nat.mul_add_mod, Nat.mod_eq_of_lt hfrac]
  have hread := unpack_eq_fin.mpr ⟨rfl, by omega, .inr ⟨by omega, congrArg _ hmod, rfl⟩⟩
  rw [hmag]
  conv_lhs => rw [← hself]
  rw [unpack_withSign neg hread, hdiv]
  push_cast
  rw [add_sub_cancel_right]

/-- Every sign, fraction and exponent of a normal value is a binary32 word's. -/
theorem exists_word_of_fields {field frac : Nat} (neg : Bool) (hfrac : frac < 2 ^ 23) (hfield : field < 254) :
    ∃ word : W32, unpack fmt32 word.toNat = .fin neg (2 ^ 23 + frac) (field - 149) := by
  have hlt : withSign fmt32 neg ((field + 1) * 2 ^ 23 + frac) < 2 ^ 32 :=
    withSign_lt fmt32 neg (show (field + 1) * 2 ^ 23 + frac < 2 ^ 31 by omega)
  refine ⟨BitVec.ofNat 32 (withSign fmt32 neg ((field + 1) * 2 ^ 23 + frac)), ?_⟩
  rw [BitVec.toNat_ofNat, Nat.mod_eq_of_lt hlt]
  exact unpack_of_fields (f := fmt32) neg hfrac (show field + 1 < 255 by omega)

/-- An integer of at most 24 bits, times a power of two in the middle of the range, is representable in binary32. -/
theorem representable_of_lt {n : Nat} {k : Int} (neg : Bool) (hn : 0 < n) (hlt : n < 2 ^ 24)
    (hmin : -126 ≤ k) (hmax : k ≤ 104) : Representable (signed neg n * 2 ^ k) := by
  have hlog : n.log2 < 24 := (Nat.log2_lt hn.ne').mpr hlt
  obtain ⟨j, hj⟩ : ∃ j, j + n.log2 = 23 := ⟨23 - n.log2, by omega⟩
  obtain ⟨frac, hfrac⟩ : ∃ frac, n * 2 ^ j = 2 ^ 23 + frac := by
    refine Nat.exists_eq_add_of_le ?_
    rw [← hj, pow_add, Nat.mul_comm]
    exact Nat.mul_le_mul_right _ (Nat.log2_self_le hn.ne')
  have hfrac_lt : frac < 2 ^ 23 := by
    have : n * 2 ^ j < 2 ^ (n.log2 + 1) * 2 ^ j := Nat.mul_lt_mul_of_pos_right Nat.lt_log2_self (Nat.two_pow_pos _)
    rw [← pow_add, show n.log2 + 1 + j = 24 by omega] at this
    omega
  obtain ⟨field, hfield⟩ := Int.eq_ofNat_of_zero_le (show 0 ≤ k + 149 - j by omega)
  obtain ⟨word, hword⟩ := exists_word_of_fields (field := field) neg hfrac_lt (by omega)
  rw [← hfrac, show (field : Int) - 149 = k - j by omega] at hword
  refine ⟨word, f32Value_eq_some.mpr ⟨neg, n * 2 ^ j, k - j, hword, ?_⟩⟩
  rw [signed_cast, signed_cast, zpow_sub₀ two_ne_zero, zpow_natCast]
  push_cast
  field_simp

theorem s16Float_of_ne_zero {v : Int} (h : v ≠ 0) :
    s16Float v = BitVec.ofNat 32 (roundFin fmt32 (decide (v < 0)) v.natAbs (-15)) := by
  rw [s16Float, if_neg h]
  rfl

/-- `v / 32768` is representable, so the division does not round (43 R191). -/
theorem f32Value_s16Float {v : Int} (hlow : -32768 ≤ v) (hhigh : v ≤ 32767) :
    f32Value (s16Float v) = some ((v : ℚ) / 32768) := by
  by_cases hv : v = 0
  · rw [hv, Int.cast_zero, zero_div]
    exact f32Value_zero false
  · obtain ⟨word, hword⟩ := representable_of_lt (n := v.natAbs) (k := -15) (decide (v < 0)) (by omega) (by omega)
      (by decide) (by decide)
    have hval : (signed (decide (v < 0)) v.natAbs : ℚ) * 2 ^ (-15 : Int) = v / 32768 := by
      rw [signed_natAbs]
      norm_num [div_eq_mul_inv]
    rw [s16Float_of_ne_zero hv]
    exact f32Value_roundFin (hword.trans (congrArg some hval)) hval

/-- Settles O16: the exact value, and negative zero has the value 0, which only the integer 0 is converted to. -/
theorem s16ConversionIsExact : Obligations.S16ConversionIsExact := by
  unfold Obligations.S16ConversionIsExact
  refine ⟨fun v hlow hhigh => ⟨f32Value_s16Float hlow hhigh, fun hneg => ?_⟩, rfl⟩
  have hvalue := f32Value_s16Float hlow hhigh
  have hzero : f32Value 0x80000000 = some 0 := f32Value_zero true
  rw [hneg, hzero] at hvalue
  obtain rfl : v = 0 := by simpa using hvalue.symm
  exact absurd hneg (by decide)

/-! ## Runs of whole samples -/

theorem aligned_of_whole {width : Nat} {bytes : List Byte} (h : bytes.length % width = 0)
    (f : List Byte → List Sample) (s : State) : aligned width bytes f s = .ok (f bytes) s := if_pos h

theorem exec_convS16_of_whole {bytes : List Byte} (h : bytes.length % 4 = 0) (s : State) :
    exec (.convS16 bytes) s = .next (s.respond (.samples (samplesS16 bytes))) :=
  congrArg (Res.outcome · Resp.samples) (aligned_of_whole h samplesS16 s)

theorem exec_convF32_of_whole {bytes : List Byte} (h : bytes.length % 8 = 0) (s : State) :
    exec (.convF32 bytes) s = .next (s.respond (.samples (samplesF32 s.params.endian bytes))) :=
  congrArg (Res.outcome · Resp.samples) (aligned_of_whole h (samplesF32 s.params.endian) s)

/-- A run of whole samples is taken sample by sample. -/
theorem wholeSamples_induction {width : Nat}
    {motive : (bytes : List Byte) → bytes.length % width = 0 → Prop} (nil : motive [] (Nat.zero_mod width))
    (append : ∀ (sample rest : List Byte) (hsample : sample.length = width) (hrest : rest.length % width = 0),
      motive rest hrest → motive (sample ++ rest) (by simp [hsample, hrest]))
    (bytes : List Byte) (h : bytes.length % width = 0) : motive bytes h := by
  obtain ⟨n, hn⟩ := Nat.dvd_of_mod_eq_zero h
  induction n generalizing bytes with
  | zero =>
    obtain rfl := List.length_eq_zero_iff.mp hn
    exact nil
  | succ n ih =>
    rw [Nat.mul_succ] at hn
    have hrest : (bytes.drop width).length = width * n := by rw [List.length_drop, hn, Nat.add_sub_cancel]
    have hstep := append (bytes.take width) (bytes.drop width) (List.length_take_of_le (by omega)) _
      (ih _ (by rw [hrest, Nat.mul_mod_right]) hrest)
    simpa only [List.take_append_drop] using hstep

/-! ## CONV.S16 -/

/-- Sample `i` of a run in format `IQ16` (30_encoding R92): I before Q, low byte first. -/
def sampleS16At (bytes : List Byte) (i : Nat) : Sample :=
  ⟨s16Float (s16 (bytes.getD (4 * i) 0) (bytes.getD (4 * i + 1) 0)),
    s16Float (s16 (bytes.getD (4 * i + 2) 0) (bytes.getD (4 * i + 3) 0))⟩

theorem samplesS16_eq_map {bytes : List Byte} (h : bytes.length % 4 = 0) :
    samplesS16 bytes = (List.range (bytes.length / 4)).map (sampleS16At bytes) := by
  induction bytes, h using wholeSamples_induction with
  | nil => rfl
  | append sample rest hsample hrest ih =>
    match sample, hsample with
    | [b0, b1, b2, b3], _ =>
      have hlater : sampleS16At ([b0, b1, b2, b3] ++ rest) ∘ Nat.succ = sampleS16At rest := rfl
      have hcount : ([b0, b1, b2, b3] ++ rest).length / 4 = rest.length / 4 + 1 := by
        rw [List.length_append]
        exact Nat.add_div_left _ (Nat.succ_pos 3)
      rw [hcount, List.range_succ_eq_map, List.map_cons, List.map_map, hlater, ← ih]
      rfl

/-- The 16-bit integer of two bytes (00_scope R14). -/
theorem s16_congruent (lo hi : Byte) :
    -32768 ≤ s16 lo hi ∧ s16 lo hi ≤ 32767 ∧
      (s16 lo hi - (lo.toNat + 256 * hi.toNat : Nat)) % 65536 = 0 := by
  have hlow := BitVec.le_toInt (hi ++ lo)
  have hhigh := BitVec.toInt_lt (x := hi ++ lo)
  have hcongr := BitVec.toInt_eq_toNat_cond (hi ++ lo)
  rw [toNat_append_byte] at hcongr
  rw [s16]
  split at hcongr <;> omega

/-- Settles O17: the run is converted sample by sample, and each integer is the two's complement of its two bytes. -/
theorem convS16ConvertsEverySample : Obligations.ConvS16ConvertsEverySample := by
  unfold Obligations.ConvS16ConvertsEverySample
  refine ⟨fun s bytes h => ⟨_, exec_convS16_of_whole h s, ?_, fun i hi => ?_⟩, s16_congruent⟩
  · rw [samplesS16_eq_map h, List.length_map, List.length_range]
  · rw [samplesS16_eq_map h, List.getElem?_map, List.getElem?_range hi]
    rfl

/-! ## CONV.F32 -/

/-- Serialising the samples of a run in format `IQ32` gives the run back. -/
theorem serialise_samplesF32 (e : Endian) {bytes : List Byte} (h : bytes.length % 8 = 0) :
    serialise e (samplesF32 e bytes) = bytes := by
  induction bytes, h using wholeSamples_induction with
  | nil => rfl
  | append sample rest hsample hrest ih =>
    match sample, hsample with
    | [b0, b1, b2, b3, b4, b5, b6, b7], _ =>
      have hfirst : samplesF32 e ([b0, b1, b2, b3, b4, b5, b6, b7] ++ rest) =
          ⟨wordE e b0 b1 b2 b3, wordE e b4 b5 b6 b7⟩ :: samplesF32 e rest := rfl
      rw [hfirst, serialise_cons, ih, bytesE_wordE, bytesE_wordE]
      rfl

/-- Bytes `8i` to `8i + 7` of a serialisation are those of sample `i` (30_encoding R94, R96). -/
theorem take_drop_serialise (e : Endian) {frame : List Sample} {i : Nat} (h : i < frame.length) :
    ((serialise e frame).drop (8 * i)).take 8 = sampleBytes e frame[i] := by
  rw [drop_serialise e h.le, List.drop_eq_getElem_cons h, serialise, List.flatMap_cons]
  exact List.take_left' (by simp [sampleBytes])

/-- Settles O18: the run is the serialisation of its samples. -/
theorem convF32MovesEveryWord : Obligations.ConvF32MovesEveryWord := by
  unfold Obligations.ConvF32MovesEveryWord
  intro s bytes h
  obtain ⟨out, hout⟩ : ∃ out, samplesF32 s.params.endian bytes = out := ⟨_, rfl⟩
  have hbytes : serialise s.params.endian out = bytes := by rw [← hout, serialise_samplesF32 _ h]
  have hlen : out.length = bytes.length / 8 := by
    rw [← hbytes, serialise_length, Nat.mul_div_cancel_left _ (by decide)]
  refine ⟨out, hout ▸ exec_convF32_of_whole h s, hlen, fun i hi => ?_⟩
  have hi' : i < out.length := hlen ▸ hi
  exact ⟨out[i], List.getElem?_eq_getElem hi', by rw [← hbytes, take_drop_serialise _ hi']⟩

end Sys2Proof.Proofs

/-! The anchor and the clock (spec/44_timestamp_encoder.md R210, R211; 70_reset_and_hazards R336): TS.ANCHOR alone reads
the clock, and only while no anchor is held, so that what anchors more than once still reads it once. -/

namespace Sys2Proof.Proofs

open Sys2Proof.Machine Sys2Proof.Laws

/-! ## TS.ANCHOR -/

theorem tsAnchor_of_valid {s : State} (h : s.anch.valid = true) : tsAnchor s = s := if_pos h

theorem tsAnchor_of_not_valid {s : State} (h : s.anch.valid = false) :
    tsAnchor s =
      { (askClock s).2 with anch := ⟨true, (askClock s).1.sec, (askClock s).1.nsec.val⟩ } := by
  simp [tsAnchor, h]

theorem tsAnchor_valid (s : State) : (tsAnchor s).anch.valid = true := by
  cases hvalid : s.anch.valid with
  | true => rw [tsAnchor_of_valid hvalid, hvalid]
  | false => rw [tsAnchor_of_not_valid hvalid]

/-- The clock's answer is the next scripted one, where there is any, and it is counted (00_scope R15, log 9). -/
theorem askClock_eq (s : State) :
    ∃ c : Clock, (s.host.clock = [] ∨ s.host.clock.head? = some c) ∧
      askClock s =
        (c, { s with host := { s.host with clock := s.host.clock.tail, nClock := s.host.nClock + 1 } }) := by
  cases hclock : s.host.clock with
  | nil => exact ⟨Config.clock s.host.nClock, .inl rfl, by simp [askClock, hclock]⟩
  | cons c rest => exact ⟨c, .inr rfl, by simp [askClock, hclock]⟩

theorem exec_tsAnchor (s : State) : exec .tsAnchor s = .next ((tsAnchor s).respond .done) := rfl

/-- Settles O21: with an anchor TS.ANCHOR keeps the state, without one it asks the clock. -/
theorem anchorIsTakenOnce : Obligations.AnchorIsTakenOnce := by
  unfold Obligations.AnchorIsTakenOnce
  intro s
  refine ⟨fun hvalid => ?_, fun hnone => ?_⟩
  · rw [exec_tsAnchor, tsAnchor_of_valid hvalid]
    rfl
  · obtain ⟨c, hc, hask⟩ := askClock_eq s
    refine ⟨c, hc, ?_⟩
    rw [exec_tsAnchor, tsAnchor_of_not_valid hnone, hask]
    rfl

/-! ## The clock is read once -/

/-- Between the two states the clock was not read and the anchor kept, or it was read once and the anchor taken. -/
def ClockReadAtMostOnce (s t : State) : Prop :=
  (t.anch = s.anch ∧ t.host.nClock = s.host.nClock) ∨
    (s.anch.valid = false ∧ t.anch.valid = true ∧ t.host.nClock = s.host.nClock + 1)

theorem ClockReadAtMostOnce.refl (s : State) : ClockReadAtMostOnce s s := .inl ⟨rfl, rfl⟩

/-- A first read leaves the anchor held, so that no second one follows. -/
theorem ClockReadAtMostOnce.trans {s t u : State} (hst : ClockReadAtMostOnce s t)
    (htu : ClockReadAtMostOnce t u) : ClockReadAtMostOnce s u := by
  unfold ClockReadAtMostOnce at *
  obtain ⟨hanch, hcount⟩ | ⟨hnone, hheld, hcount⟩ := hst
  · rwa [hanch, hcount] at htu
  · obtain ⟨hanch', hcount'⟩ | ⟨hnone', -, -⟩ := htu
    · exact .inr ⟨hnone, hanch' ▸ hheld, hcount'.trans hcount⟩
    · rw [hheld] at hnone'
      cases hnone'

theorem tsAnchor_clockReadAtMostOnce (s : State) : ClockReadAtMostOnce s (tsAnchor s) := by
  cases hvalid : s.anch.valid with
  | true => rw [tsAnchor_of_valid hvalid]; exact .refl s
  | false =>
    rw [tsAnchor_of_not_valid hvalid]
    exact .inr ⟨hvalid, rfl, askClock_counts s⟩

@[simp] theorem askEmit_nClock (s : State) : (askEmit s).2.host.nClock = s.host.nClock := by
  unfold askEmit
  split <;> rfl

@[simp] theorem askSinkOpen_nClock (addr : List Byte) (ports : List Nat) (s : State) :
    (askSinkOpen addr ports s).2.host.nClock = s.host.nClock := by
  unfold askSinkOpen
  split <;> rfl

@[simp] theorem askParsable_nClock (addr : List Byte) (s : State) :
    (askParsable addr s).2.host.nClock = s.host.nClock := by
  unfold askParsable
  split <;> rfl

theorem deliverFrom_nClock (b : List Byte) (n d : Nat) (s : State) :
    (deliverFrom b n d s).host.nClock = s.host.nClock := by
  induction n generalizing d s with
  | zero => rfl
  | succ n ih => exact (ih (d + 1) (deliver b d s)).trans (askEmit_nClock s)

theorem deliverFrom_clockReadAtMostOnce (b : List Byte) (n d : Nat) (s : State) :
    ClockReadAtMostOnce s (deliverFrom b n d s) :=
  .inl ⟨by rw [deliverFrom_frame], deliverFrom_nClock b n d s⟩

/-- A flush anchors for its header and then delivers (45 R231). -/
theorem flushFrame_clockReadAtMostOnce (n : Nat) (s : State) :
    ClockReadAtMostOnce s (flushFrame n s) := by
  have hanchor : ClockReadAtMostOnce s (tsAnchor { s with acc := s.acc.drop n }) :=
    tsAnchor_clockReadAtMostOnce { s with acc := s.acc.drop n }
  rw [flushFrame_eq]
  exact hanchor.trans (deliverFrom_clockReadAtMostOnce _ _ _ _)

theorem flushLoop_clockReadAtMostOnce {n : Nat} {s t : State} (h : flushLoop n s = .ok () t) :
    ClockReadAtMostOnce s t := by
  induction n generalizing s with
  | zero =>
    rw [flushLoop] at h
    split at h <;> cases h
    exact .refl _
  | succ n ih =>
    by_cases hq : s.acc.length < s.pktValue - 1
    · rw [flushLoop_done hq] at h
      cases h
      exact .refl _
    · rw [flushLoop_turn (by omega)] at h
      exact (flushFrame_clockReadAtMostOnce _ s).trans (ih h)

/-- The flush loop is the one part of PUSH that anchors (46 R255). -/
theorem pushData_clockReadAtMostOnce {data : List Byte} {s t : State}
    (h : pushData data s = .ok () t) : ClockReadAtMostOnce s t := by
  obtain ⟨ys, u, hthrough, hflush⟩ := bind_eq_ok.mp h
  have hinput : ClockReadAtMostOnce s (frmAccum ys u) := by
    rw [pushThrough_frame hthrough]
    exact .refl s
  exact hinput.trans (flushLoop_clockReadAtMostOnce hflush)

theorem exec_push_clockReadAtMostOnce {data : List Byte} {s t : State}
    (h : exec (.push data) s = .next t) : ClockReadAtMostOnce s t := by
  obtain ⟨-, rfl⟩ | ⟨u, -, hok, rfl⟩ | ⟨n, -, rfl⟩ := exec_push_next h
  · exact .refl s
  · have hu : ClockReadAtMostOnce s u := pushData_clockReadAtMostOnce hok
    exact hu
  · exact .refl s

theorem openAndBuild_nClock (c : Settings) (s : State) :
    (openAndBuild c s).host.nClock = s.host.nClock := by
  unfold openAndBuild
  dsimp only
  split <;> exact askSinkOpen_nClock c.addr c.ports s

theorem startFromAddr_nClock (c : Settings) (s : State) :
    (startFromAddr c s).host.nClock = s.host.nClock := by
  have hasked := askParsable_nClock c.addr s
  unfold startFromAddr
  dsimp only
  split
  · exact hasked
  · split
    · exact hasked
    · split
      · exact (openAndBuild_nClock c _).trans hasked
      · exact hasked

theorem startUp_nClock (s : State) : (startUp s).host.nClock = s.host.nClock := by
  unfold startUp
  split
  · rfl
  · split
    · rfl
    · exact startFromAddr_nClock _ s

theorem exec_start_nClock {s t : State} (h : exec .start s = .next t) :
    t.host.nClock = s.host.nClock := by
  obtain rfl | rfl := acceptedIn_next_cases h
  · exact startUp_nClock s
  · rfl

/-- The operations that anchor: TS.ANCHOR, TS.HEADER, and those that flush frames. -/
def Anchors : Instr → Prop
  | .push _ => True
  | .tsAnchor => True
  | .tsHeader _ => True
  | .frmFlush => True
  | _ => False

theorem exec_clockReadAtMostOnce {i : Instr} {s t : State} (hi : Anchors i)
    (h : exec i s = .next t) : ClockReadAtMostOnce s t := by
  cases i with
  | push data => exact exec_push_clockReadAtMostOnce h
  | tsAnchor => cases h; exact tsAnchor_clockReadAtMostOnce s
  | tsHeader n => cases h; exact tsAnchor_clockReadAtMostOnce s
  | frmFlush => rw [exec_frmFlush_next h]; exact flushFrame_clockReadAtMostOnce _ s
  | _ => exact hi.elim

theorem exec_nClock {i : Instr} {s t : State} (hi : ¬ Anchors i) (h : exec i s = .next t) :
    t.host.nClock = s.host.nClock := by
  cases i with
  | push data => exact absurd trivial hi
  | tsAnchor => exact absurd trivial hi
  | tsHeader n => exact absurd trivial hi
  | frmFlush => exact absurd trivial hi
  | reset => cases h; rfl
  | cfgwr reg value => obtain rfl | rfl := acceptedIn_next_cases h <;> rfl
  | start => exact exec_start_nClock h
  | eos => obtain rfl | rfl := acceptedIn_next_cases h <;> rfl
  | cancel => obtain rfl | rfl := acceptedIn_next_cases h <;> rfl
  | reanchor => obtain rfl | rfl := acceptedIn_next_cases h <;> rfl
  | statrd reg idx => cases h; rfl
  | lpfDesign taps cutoff => cases h; rfl
  | decStep k x => cases h; simp
  | decRun k run => cases h; simp
  | ncoStep x => cases h; rw [ncoStep_frame]; rfl
  | ncoRun run => cases h; rw [(ncoRun_frame run s).1]; rfl
  | carrySplit chunk => cases h; rfl
  | convS16 bytes => obtain rfl | rfl := aligned_outcome_next h <;> rfl
  | convF32 bytes => obtain rfl | rfl := aligned_outcome_next h <;> rfl
  | frmAccum run => cases h; rfl
  | frmSend bytes => cases h; exact deliverFrom_nClock bytes s.der.ndest 0 s

/-- Settles O58: an operation that anchors does so through TS.ANCHOR, which reads the clock only to take an anchor, and
no other operation asks the clock. -/
theorem clockIsReadOnce : Obligations.ClockIsReadOnce := by
  unfold Obligations.ClockIsReadOnce
  intro i s t h
  by_cases hi : Anchors i
  · exact (exec_clockReadAtMostOnce hi h).imp_left And.right
  · exact .inl (exec_nClock hi h)

end Sys2Proof.Proofs

/-! The header's time (spec/44_timestamp_encoder.md R212 to R217): the anchor plus the offset in nanoseconds, split into
seconds modulo 2^32 and nanoseconds. -/

namespace Sys2Proof.Proofs

open Sys2Proof.Machine Sys2Proof.Laws

/-! ## The two words -/

theorem headerWords_seconds (time : Nat) :
    (headerWords time).re.toNat = time / 1000000000 % 4294967296 :=
  BitVec.toNat_ofNat _ _

theorem headerWords_nanoseconds (time : Nat) :
    (headerWords time).im.toNat = time % 1000000000 := by
  have hlt : time % 1000000000 < 1000000000 := Nat.mod_lt _ (by decide)
  exact Nat.mod_eq_of_lt (hlt.trans (by decide))

/-- Before the seconds pass 32 bits the two words give the time back. -/
theorem headerNanos_headerWords {time : Nat} (h : time < 4294967296 * 1000000000) :
    headerNanos (headerWords time) = time := by
  have hsec : time / 1000000000 < 4294967296 := Nat.div_lt_of_lt_mul (by omega)
  rw [headerNanos, headerWords_seconds, headerWords_nanoseconds, Nat.mod_eq_of_lt hsec]
  exact Nat.div_add_mod' time 1000000000

/-! ## TS.HEADER -/

/-- The time TS.HEADER puts into the header of index `i` (44 R212). -/
def headerTime (i : Nat) (s : State) : Nat :=
  (tsAnchor s).anch.sec * 1000000000 + (tsAnchor s).anch.nsec + tsOffset i s

theorem exec_tsHeader (i : Nat) (s : State) :
    exec (.tsHeader i) s =
      .next ((tsAnchor s).respond (.samples [headerWords (headerTime i s)])) := by
  rw [headerTime, ← tsOffset_anchor]
  rfl

theorem exec_tsHeader_sample {i : Nat} {s t : State} {h : Sample}
    (hexec : exec (.tsHeader i) s = .next t) (hresp : t.resp = .samples [h]) :
    h = headerWords (headerTime i s) := by
  rw [exec_tsHeader] at hexec
  cases hexec
  cases hresp
  rfl

/-- Settles O22: the header's words are those of the anchor's time plus the offset, and the state is the one TS.ANCHOR
leaves. -/
theorem headerIsAnchorPlusOffset : Obligations.HeaderIsAnchorPlusOffset := by
  unfold Obligations.HeaderIsAnchorPlusOffset
  intro s i
  have hanch : (tsAnchor s).anch = ⟨true, (tsAnchor s).anch.sec, (tsAnchor s).anch.nsec⟩ := by
    rw [← tsAnchor_valid s]
  refine ⟨_, _, headerWords (headerTime i s), (tsAnchor s).anch.sec, (tsAnchor s).anch.nsec,
    tsOffset i s, exec_tsHeader i s, rfl, exec_tsAnchor s, rfl, rfl, hanch, fun hheld => ?_,
    fun hint hpos => tsOffset_integer hint hpos.ne' i, fun hfloat => tsOffset_floating hfloat i,
    headerWords_seconds _, headerWords_nanoseconds _, fun hvalid => ?_, fun hnone => ?_, ?_⟩
  · exact (tsAnchor_held hheld).2 (tsAnchor_valid s)
  · rw [tsAnchor_of_valid hvalid]
    exact ⟨rfl, rfl⟩
  · rw [tsAnchor_of_not_valid hnone]
    exact askClock_counts s
  · exact congrArg (State.respond · _) (tsAnchor_frame s)

/-- Settles O23: the second word is a remainder by 10^9, which is below 2^30. -/
theorem headerNanosecondsBelowOneSecond : Obligations.HeaderNanosecondsBelowOneSecond := by
  unfold Obligations.HeaderNanosecondsBelowOneSecond
  intro s t i h hexec hresp
  have hlt : h.im.toNat < 1000000000 := by
    rw [exec_tsHeader_sample hexec hresp, headerWords_nanoseconds]
    exact Nat.mod_lt _ (by decide)
  refine ⟨hlt, BitVec.eq_of_toNat_eq ?_⟩
  rw [BitVec.extractLsb'_toNat, Nat.shiftRight_eq_div_pow, Nat.div_eq_of_lt (hlt.trans (by decide))]
  rfl

/-! ## The integer path -/

/-- With an anchor held, on the integer path, and before the seconds pass 32 bits, the header's time is the anchor's
plus the floor of the exact offset (44 R213). -/
theorem headerNanos_integer {s t : State} {i r sec nsec : Nat} {h : Sample}
    (hanch : s.anch = ⟨true, sec, nsec⟩) (hint : s.der.rateInt = true) (hrate : s.der.rOut = r)
    (hr : 0 < r) (hlt : sec * 1000000000 + nsec + i * 1000000000 / r < 4294967296 * 1000000000)
    (hexec : exec (.tsHeader i) s = .next t) (hresp : t.resp = .samples [h]) :
    headerNanos h = sec * 1000000000 + nsec + i * 1000000000 / r := by
  subst hrate
  have hvalid : s.anch.valid = true := by rw [hanch]
  have htime : headerTime i s = sec * 1000000000 + nsec + i * 1000000000 / s.der.rOut := by
    rw [headerTime, tsAnchor_of_valid hvalid, hanch, tsOffset_integer hint hr.ne']
    rfl
  rw [exec_tsHeader_sample hexec hresp, htime, headerNanos_headerWords hlt]

section

variable {N i j r : Nat}

/-- The floors of two multiples differ by the floor of their difference or one more (R217 (b)). -/
theorem floor_step (hr : 0 < r) (hij : i ≤ j) :
    j * N / r = i * N / r + (j - i) * N / r ∨ j * N / r = i * N / r + (j - i) * N / r + 1 := by
  have hsum : j * N = i * N + (j - i) * N := by rw [← Nat.add_mul, Nat.add_sub_cancel' hij]
  rw [hsum, Nat.add_div hr]
  split
  · exact .inr rfl
  · exact .inl rfl

/-- The floors increase strictly where a unit is worth 1 or more (R217 (c)). -/
theorem floor_lt_floor (hr : 0 < r) (hunit : r ≤ N) (hij : i < j) : i * N / r < j * N / r := by
  have hnext : i * N + r ≤ j * N :=
    calc i * N + r ≤ i * N + N := Nat.add_le_add_left hunit _
      _ = (i + 1) * N := (Nat.succ_mul i N).symm
      _ ≤ j * N := Nat.mul_le_mul_right N hij
  calc i * N / r < i * N / r + 1 := Nat.lt_succ_self _
    _ = (i * N + r) / r := (Nat.add_div_right _ hr).symm
    _ ≤ j * N / r := Nat.div_le_div_right hnext

/-- A floored time is not above the exact one (R217 (d)). -/
theorem add_floor_mul_le (A x r : Nat) : (A + x / r) * r ≤ A * r + x := by
  rw [Nat.add_mul]
  exact Nat.add_le_add_left (Nat.div_mul_le_self x r) _

/-- A floored time is less than one unit below the exact one (R217 (d)). -/
theorem lt_add_floor_mul_add (A x : Nat) (hr : 0 < r) : A * r + x < (A + x / r) * r + r := by
  rw [Nat.add_mul, Nat.add_assoc]
  exact Nat.add_lt_add_left (Nat.lt_div_mul_add hr) _

/-- Where both floors are exact, so is their difference (R217 (e)). -/
theorem floor_sub_floor_mul (A : Nat) (hi : r ∣ i * N) (hj : r ∣ j * N) :
    (A + j * N / r - (A + i * N / r)) * r = (j - i) * N := by
  rw [Nat.add_sub_add_left, Nat.sub_mul, Nat.div_mul_cancel hi, Nat.div_mul_cancel hj, Nat.sub_mul]

end

/-- Settles O24: each header's time is the anchor's plus a floor, and R217 (b) to (e) are facts about such floors. -/
theorem headerStepsAndMonotonicity : Obligations.HeaderStepsAndMonotonicity := by
  unfold Obligations.HeaderStepsAndMonotonicity
  intro s ti tj i j r sec nsec hi hj hanch _ hint hrate hr hij hlt hexeci hrespi hexecj hrespj
  have hle : i * 1000000000 / r ≤ j * 1000000000 / r :=
    Nat.div_le_div_right (Nat.mul_le_mul_right 1000000000 hij.le)
  have hlti : sec * 1000000000 + nsec + i * 1000000000 / r < 4294967296 * 1000000000 :=
    (Nat.add_le_add_left hle _).trans_lt hlt
  have hstep := floor_step (N := 1000000000) hr hij.le
  have hstrict (hfast : r ≤ 1000000000) := floor_lt_floor hr hfast hij
  rw [headerNanos_integer hanch hint hrate hr hlti hexeci hrespi,
    headerNanos_integer hanch hint hrate hr hlt hexecj hrespj]
  refine ⟨?_, by omega, by omega, fun hfast => Nat.add_lt_add_left (hstrict hfast) _,
    add_floor_mul_le _ _ r, lt_add_floor_mul_add _ _ hr, floor_sub_floor_mul _⟩
  rintro rfl
  simp

end Sys2Proof.Proofs

/-! The queue and the deliveries (spec/45_framer_streamer.md R230 to R234): FRM.SEND hands one byte run to every
destination in order and counts the failures, and FRM.FLUSH sends the frame of the oldest samples through it. -/

namespace Sys2Proof.Proofs

open Sys2Proof.Machine Sys2Proof.Laws

/-! ## FRM.ACCUM -/

theorem exec_frmAccum (run : List Sample) (s : State) :
    exec (.frmAccum run) s = .next ((frmAccum run s).respond .done) := rfl

/-- Settles O26: the next state of FRM.ACCUM, written out. -/
theorem accumAppendsAtTheBack : Obligations.AccumAppendsAtTheBack :=
  fun s run => exec_frmAccum run s

/-! ## FRM.SEND -/

/-- The host's answers to the deliveries to `n` destinations from `d` on, in order (45 R234). -/
def deliveryResults (bytes : List Byte) : Nat → Nat → State → List Bool
  | 0, _, _ => []
  | n + 1, d, s => (askEmit s).1 :: deliveryResults bytes n (d + 1) (deliver bytes d s)

theorem deliveryResults_length (b : List Byte) (n d : Nat) (s : State) :
    (deliveryResults b n d s).length = n := by
  induction n generalizing d s with
  | zero => rfl
  | succ n ih => simp [deliveryResults, ih]

theorem deliver_emits (b : List Byte) (d : Nat) (s : State) :
    (deliver b d s).host.emits = s.host.emits.tail := by
  cases hemits : s.host.emits <;> simp [deliver, askEmit, hemits]

theorem askEmit_of_scripted {s : State} (h : 0 < s.host.emits.length) :
    s.host.emits[0]? = some (askEmit s).1 := by
  cases hemits : s.host.emits with
  | nil => simp [hemits] at h
  | cons ok rest => simp [askEmit, hemits]

/-- The scripted answers come first (log 9). -/
theorem deliveryResults_scripted (b : List Byte) {n i : Nat} (d : Nat) {s : State} (hi : i < n)
    (hscript : i < s.host.emits.length) : (deliveryResults b n d s)[i]? = s.host.emits[i]? := by
  induction n generalizing d s i with
  | zero => exact absurd hi (Nat.not_lt_zero i)
  | succ n ih =>
    cases i with
    | zero => exact (askEmit_of_scripted hscript).symm
    | succ i =>
      rw [deliveryResults, List.getElem?_cons_succ, ih (d + 1) (by omega), deliver_emits, List.getElem?_tail]
      rw [deliver_emits, List.length_tail]
      omega

/-- One event per destination, all with the same bytes, each with the host's answer. -/
theorem deliverFrom_out_results (b : List Byte) (n d : Nat) (s : State) :
    (deliverFrom b n d s).out =
      s.out ++ ((deliveryResults b n d s).zipIdx d).map fun ok => ⟨ok.2, b, ok.1⟩ := by
  induction n generalizing d s with
  | zero => simp [deliverFrom, deliveryResults]
  | succ n ih => simp [deliverFrom, deliveryResults, ih]

/-- A failure counter goes up by one exactly where the delivery to its destination failed. -/
theorem deliverFrom_dfail_getD (b : List Byte) (n d e : Nat) (s : State) :
    (deliverFrom b n d s).dfail.getD e 0 =
      s.dfail.getD e 0 + if (false, e) ∈ (deliveryResults b n d s).zipIdx d then 1 else 0 := by
  induction n generalizing d s with
  | zero => simp [deliverFrom, deliveryResults]
  | succ n ih =>
    have hlater : (false, d) ∉ (deliveryResults b n (d + 1) (deliver b d s)).zipIdx (d + 1) := fun hmem =>
      absurd (List.le_snd_of_mem_zipIdx hmem) (Nat.not_succ_le_self d)
    rw [deliverFrom, ih, deliver_dfail_getD, deliveryResults, List.zipIdx_cons]
    obtain rfl | he := eq_or_ne e d
    · simp [hlater, eq_comm (a := false)]
    · simp [he]

theorem exec_frmSend (bytes : List Byte) (s : State) :
    exec (.frmSend bytes) s = .next ((deliverFrom bytes s.der.ndest 0 s).respond .done) := rfl

/-- The counter of destination `e` after deliveries to the destinations from 0 on. -/
theorem deliverFrom_zero_dfail_getD (b : List Byte) (n e : Nat) (s : State) :
    (deliverFrom b n 0 s).dfail.getD e 0 =
      s.dfail.getD e 0 + if (deliveryResults b n 0 s)[e]? = some false then 1 else 0 := by
  rw [deliverFrom_dfail_getD]
  simp only [List.mk_mem_zipIdx_iff_getElem?]

/-- Settles O28: the events, the counters and the frame of the deliveries to destinations 0 to `NDEST - 1`. -/
theorem sendReachesEveryDestination : Obligations.SendReachesEveryDestination := by
  unfold Obligations.SendReachesEveryDestination
  intro s bytes
  refine ⟨_, deliveryResults bytes s.der.ndest 0 s, exec_frmSend bytes s, deliveryResults_length .., ?_,
    deliverFrom_out_results .., fun d => deliverFrom_zero_dfail_getD .., ?_, rfl,
    congrArg (State.respond · .done) (deliverFrom_frame ..)⟩
  · exact fun i hi hscript => deliveryResults_scripted bytes 0 hi hscript
  · exact fun hcounters => deliverFrom_dfail_length (by omega)

/-! ## FRM.FLUSH -/

theorem tsAnchor_emits (s : State) : (tsAnchor s).host.emits = s.host.emits := by
  unfold tsAnchor askClock
  split
  · rfl
  · split <;> rfl

/-- Taking samples off the queue does not reach the anchor. -/
theorem tsAnchor_setAcc (s : State) (acc : List Sample) :
    tsAnchor { s with acc := acc } = { tsAnchor s with acc := acc } := by
  cases hvalid : s.anch.valid with
  | true => simp [tsAnchor, hvalid]
  | false => cases hclock : s.host.clock <;> simp [tsAnchor, askClock, hvalid, hclock]

/-- The state a flush of `n` samples delivers from: an anchor held, the samples taken off the queue (45 R231). -/
def poppedAndAnchored (n : Nat) (s : State) : State := { tsAnchor s with acc := s.acc.drop n }

theorem poppedAndAnchored_out (n : Nat) (s : State) : (poppedAndAnchored n s).out = s.out := tsAnchor_out s

theorem poppedAndAnchored_dfail (n : Nat) (s : State) : (poppedAndAnchored n s).dfail = s.dfail :=
  tsAnchor_dfail s

theorem poppedAndAnchored_emits (n : Nat) (s : State) :
    (poppedAndAnchored n s).host.emits = s.host.emits := tsAnchor_emits s

/-- The bytes a flush of `n` samples sends: the header of the counter and the oldest `n` samples (45 R231, R232). -/
def flushBytes (n : Nat) (s : State) : List Byte :=
  serialise s.params.endian (headerWords (headerTime s.cnt s) :: s.acc.take n)

/-- A flush delivers its bytes and counts its payload. -/
theorem flushFrame_eq_deliveries (n : Nat) (s : State) :
    flushFrame n s =
      { deliverFrom (flushBytes n s) s.der.ndest 0 (poppedAndAnchored n s) with cnt := s.cnt + n } := by
  have hheader : (tsHeader s.cnt { s with acc := s.acc.drop n }).1 = headerWords (headerTime s.cnt s) := by
    rw [tsHeader_result, tsOffset_anchor, tsAnchor_setAcc]
    rfl
  rw [flushFrame_eq, hheader, tsAnchor_setAcc]
  rfl

/-- The anchor a flush leaves is the one its header is of. -/
theorem flushFrame_anch (n : Nat) (s : State) : (flushFrame n s).anch = (tsAnchor s).anch := by
  rw [flushFrame_eq_deliveries, deliverFrom_frame]
  rfl

/-- The host's answers to the deliveries of a flush. -/
def flushResults (n : Nat) (s : State) : List Bool :=
  deliveryResults (flushBytes n s) s.der.ndest 0 (poppedAndAnchored n s)

theorem flushResults_scripted (n : Nat) {i : Nat} {s : State} (hi : i < s.der.ndest)
    (hscript : i < s.host.emits.length) : (flushResults n s)[i]? = s.host.emits[i]? := by
  rw [← poppedAndAnchored_emits n s] at hscript ⊢
  exact deliveryResults_scripted _ 0 hi hscript

theorem flushFrame_out (n : Nat) (s : State) :
    (flushFrame n s).out =
      s.out ++ (flushResults n s).zipIdx.map fun ok => ⟨ok.2, flushBytes n s, ok.1⟩ := by
  rw [flushFrame_eq_deliveries, ← poppedAndAnchored_out n s]
  exact deliverFrom_out_results ..

theorem flushFrame_dfail_getD (n e : Nat) (s : State) :
    (flushFrame n s).dfail.getD e 0 =
      s.dfail.getD e 0 + if (flushResults n s)[e]? = some false then 1 else 0 := by
  rw [flushFrame_eq_deliveries, ← poppedAndAnchored_dfail n s]
  exact deliverFrom_zero_dfail_getD ..

theorem exec_frmFlush_eq {s : State} (h : s.pktValue - 1 ≤ s.acc.length) :
    exec .frmFlush s = .next ((flushFrame (s.pktValue - 1) s).respond .done) :=
  outcome_eq_next.mpr (.inl ⟨(), _, frmFlush_eq_ok.mpr ⟨h, rfl⟩, rfl⟩)

/-- Settles O27: the flush delivers the frame of TS.HEADER and the oldest samples, and each clause is what it leaves in
one register. -/
theorem flushSendsOneFrame : Obligations.FlushSendsOneFrame := by
  unfold Obligations.FlushSendsOneFrame
  intro s p hp hqueued
  obtain rfl := pktValue_eq hp
  exact ⟨_, _, headerWords (headerTime s.cnt s), flushResults (s.pktValue - 1) s, exec_frmFlush_eq hqueued,
    flushFrame_acc .., flushFrame_cnt .., exec_tsHeader s.cnt s, rfl, flushFrame_anch ..,
    deliveryResults_length .., flushFrame_out .., fun i hi hscript => flushResults_scripted _ hi hscript,
    fun d => flushFrame_dfail_getD .., fun hcounters => flushFrame_dfail_length _ hcounters, rfl,
    congrArg (State.respond · .done) (flushFrame_frame ..)⟩

end Sys2Proof.Proofs

/-! The sample counter (spec/45_framer_streamer.md R235, 10_state.md R38): a flush moves it by one payload, RESET and
START set it back, and nothing else writes it. -/

namespace Sys2Proof.Proofs

open Sys2Proof.Machine Sys2Proof.Laws

/-- The counter is up by whole payloads of `n` samples. -/
def CountedPayloads (n : Nat) (s t : State) : Prop := ∃ f, t.cnt = s.cnt + f * n

theorem CountedPayloads.of_eq {n : Nat} {s t : State} (h : t.cnt = s.cnt) : CountedPayloads n s t :=
  ⟨0, by simp [h]⟩

theorem CountedPayloads.trans {n : Nat} {s t u : State} (hst : CountedPayloads n s t)
    (htu : CountedPayloads n t u) : CountedPayloads n s u := by
  obtain ⟨f, hf⟩ := hst
  obtain ⟨g, hg⟩ := htu
  exact ⟨f + g, by rw [hg, hf, Nat.add_mul, Nat.add_assoc]⟩

theorem flushFrame_countedPayloads (n : Nat) (s : State) : CountedPayloads n s (flushFrame n s) :=
  ⟨1, by rw [flushFrame_cnt, Nat.one_mul]⟩

theorem flushLoop_countedPayloads {n : Nat} {s t : State} (h : flushLoop n s = .ok () t) :
    CountedPayloads (s.pktValue - 1) s t := by
  induction n generalizing s with
  | zero =>
    rw [flushLoop] at h
    split at h <;> cases h
    exact .of_eq rfl
  | succ n ih =>
    by_cases hq : s.acc.length < s.pktValue - 1
    · rw [flushLoop_done hq] at h
      cases h
      exact .of_eq rfl
    · rw [flushLoop_turn (by omega)] at h
      have hrest := ih h
      rw [flushFrame_pktValue] at hrest
      exact (flushFrame_countedPayloads _ s).trans hrest

/-- The flush loop is the one part of PUSH that counts (46 R255). -/
theorem pushData_countedPayloads {data : List Byte} {s t : State} (h : pushData data s = .ok () t) :
    CountedPayloads (s.pktValue - 1) s t := by
  obtain ⟨ys, u, hthrough, hflush⟩ := bind_eq_ok.mp h
  have hloop := flushLoop_countedPayloads hflush
  rw [pushThrough_frame hthrough] at hloop
  exact hloop

theorem exec_push_countedPayloads {data : List Byte} {s t : State} (h : exec (.push data) s = .next t) :
    CountedPayloads (s.pktValue - 1) s t := by
  obtain ⟨-, rfl⟩ | ⟨u, -, hok, rfl⟩ | ⟨n, -, rfl⟩ := exec_push_next h
  · exact .of_eq rfl
  · have hu : CountedPayloads (s.pktValue - 1) s u := pushData_countedPayloads hok
    exact hu
  · exact .of_eq rfl

/-- The operations that write the counter. -/
def WritesCounter : Instr → Prop
  | .reset => True
  | .start => True
  | .push _ => True
  | .frmFlush => True
  | _ => False

/-- Every other operation keeps it. -/
theorem exec_cnt {i : Instr} {s t : State} (hi : ¬ WritesCounter i) (h : exec i s = .next t) :
    t.cnt = s.cnt := by
  cases i with
  | reset => exact absurd trivial hi
  | start => exact absurd trivial hi
  | push data => exact absurd trivial hi
  | frmFlush => exact absurd trivial hi
  | cfgwr reg value => obtain rfl | rfl := acceptedIn_next_cases h <;> rfl
  | eos => obtain rfl | rfl := acceptedIn_next_cases h <;> rfl
  | cancel => obtain rfl | rfl := acceptedIn_next_cases h <;> rfl
  | reanchor => obtain rfl | rfl := acceptedIn_next_cases h <;> rfl
  | statrd reg idx => cases h; rfl
  | lpfDesign taps cutoff => cases h; rfl
  | decStep k x => cases h; simp
  | decRun k run => cases h; simp
  | ncoStep x => cases h; rw [ncoStep_frame]; rfl
  | ncoRun run => cases h; rw [(ncoRun_frame run s).1]; rfl
  | carrySplit chunk => cases h; rfl
  | convS16 bytes => obtain rfl | rfl := aligned_outcome_next h <;> rfl
  | convF32 bytes => obtain rfl | rfl := aligned_outcome_next h <;> rfl
  | tsAnchor => cases h; exact tsAnchor_cnt s
  | tsHeader n => cases h; exact tsAnchor_cnt s
  | frmAccum run => cases h; rfl
  | frmSend bytes => cases h; rw [frmSend, deliverFrom_frame]; rfl

/-- Settles O59: a flush counts one payload, PUSH flushes alone, and the operations that do not write the counter keep
it. -/
theorem counterMovesByWholePayloads : Obligations.CounterMovesByWholePayloads := by
  unfold Obligations.CounterMovesByWholePayloads
  intro i s t hreset hstart h
  by_cases hi : WritesCounter i
  · cases i with
    | reset => exact absurd rfl hreset
    | start => exact absurd rfl hstart
    | push data => exact .inr ⟨.inr ⟨data, rfl⟩, exec_push_countedPayloads h⟩
    | frmFlush =>
      rw [exec_frmFlush_next h]
      exact .inr ⟨.inl rfl, flushFrame_countedPayloads _ s⟩
    | _ => exact hi.elim
  · exact .inl (exec_cnt hi h)

end Sys2Proof.Proofs

/-! What the delivery results reach (spec/45_framer_streamer.md R234, 46_pipeline_control.md R261): every operation but
STATRD does the same, delivery results aside, whether or not they are left out of the state it is put to. A part of an
operation that neither delivers nor sets the failure counters commutes with leaving them out. -/

namespace Sys2Proof.Proofs

open Sys2Proof.Machine Sys2Proof.Laws

/-! ## Leaving the delivery results out -/

@[simp] theorem withoutDeliveries_cfg (s : State) : s.withoutDeliveries.cfg = s.cfg := rfl
@[simp] theorem withoutDeliveries_params (s : State) : s.withoutDeliveries.params = s.params := rfl
@[simp] theorem withoutDeliveries_nco (s : State) : s.withoutDeliveries.nco = s.nco := rfl
@[simp] theorem withoutDeliveries_acc (s : State) : s.withoutDeliveries.acc = s.acc := rfl
@[simp] theorem withoutDeliveries_cnt (s : State) : s.withoutDeliveries.cnt = s.cnt := rfl
@[simp] theorem withoutDeliveries_anch (s : State) : s.withoutDeliveries.anch = s.anch := rfl
@[simp] theorem withoutDeliveries_pktValue (s : State) : s.withoutDeliveries.pktValue = s.pktValue := rfl
@[simp] theorem withoutDeliveries_encValue (s : State) : s.withoutDeliveries.encValue = s.encValue := rfl

@[simp] theorem withoutDeliveries_dec (s : State) (k : Stage) : s.withoutDeliveries.dec k = s.dec k := by
  cases k <;> rfl

@[simp] theorem withoutDeliveries_withoutDeliveries (s : State) :
    s.withoutDeliveries.withoutDeliveries = s.withoutDeliveries := by
  simp [State.withoutDeliveries]

/-- How an operation ends, the delivery results left out of the state it leaves. -/
def resWithoutDeliveries {α : Type} : Res α → Res α
  | .ok a s => .ok a s.withoutDeliveries
  | .raised s => .raised s.withoutDeliveries
  | .fault f => .fault f

/-- The outcome of a step, the delivery results left out of the next state. -/
def outcomeWithoutDeliveries :
    Host.Outcome State Fault Refusal → Host.Outcome State Fault Refusal
  | .next s => .next s.withoutDeliveries
  | .fault f => .fault f
  | .refused r => .refused r

@[simp] theorem resWithoutDeliveries_resWithoutDeliveries {α : Type} (r : Res α) :
    resWithoutDeliveries (resWithoutDeliveries r) = resWithoutDeliveries r := by
  cases r <;> simp [resWithoutDeliveries]

theorem bind_withoutDeliveries {α β : Type} (r : Res α) {k : α → State → Res β}
    (h : ∀ a s, k a s.withoutDeliveries = resWithoutDeliveries (k a s)) :
    (resWithoutDeliveries r).bind k = resWithoutDeliveries (r.bind k) := by
  cases r with
  | ok a s => exact h a s
  | raised s => rfl
  | fault f => rfl

theorem next_withoutDeliveries {t t' : State} (h : t' = t.withoutDeliveries) :
    outcomeWithoutDeliveries (.next t') = outcomeWithoutDeliveries (.next t) := by
  simp [outcomeWithoutDeliveries, h]

theorem handBack_withoutDeliveries {α : Type} {r r' : α × State} (view : α → Resp)
    (h : r' = (r.1, r.2.withoutDeliveries)) :
    outcomeWithoutDeliveries (handBack r' view) = outcomeWithoutDeliveries (handBack r view) := by
  subst h
  exact next_withoutDeliveries rfl

theorem outcome_withoutDeliveries {α : Type} {r r' : Res α} (view : α → Resp)
    (h : resWithoutDeliveries r' = resWithoutDeliveries r) :
    outcomeWithoutDeliveries (r'.outcome view) = outcomeWithoutDeliveries (r.outcome view) := by
  have hview (r : Res α) :
      outcomeWithoutDeliveries (r.outcome view) = (resWithoutDeliveries r).outcome view := by
    cases r <;> rfl
  rw [hview, hview, h]

/-- The lifecycle state decides alike, and a refusal leaves alike. -/
theorem acceptedIn_withoutDeliveries {r : RunState} {s : State}
    {go go' : Host.Outcome State Fault Refusal}
    (h : outcomeWithoutDeliveries go' = outcomeWithoutDeliveries go) :
    outcomeWithoutDeliveries (acceptedIn r s.withoutDeliveries go') =
      outcomeWithoutDeliveries (acceptedIn r s go) := by
  by_cases hrun : s.run = r
  · rwa [acceptedIn_self hrun, acceptedIn_self (s := s.withoutDeliveries) hrun]
  · rw [acceptedIn_other hrun, acceptedIn_other (s := s.withoutDeliveries) hrun]
    exact next_withoutDeliveries rfl

/-! ## The input side -/

theorem setDec_withoutDeliveries (s : State) (k : Stage) (d : Dec) :
    s.withoutDeliveries.setDec k d = (s.setDec k d).withoutDeliveries := by
  cases k <;> rfl

theorem decStep_withoutDeliveries (k : Stage) (x : Sample) (s : State) :
    decStep k x s.withoutDeliveries = ((decStep k x s).1, (decStep k x s).2.withoutDeliveries) :=
  Prod.ext (by simp) (by simp [setDec_withoutDeliveries])

theorem decRun_withoutDeliveries (k : Stage) (run : List Sample) (s : State) :
    decRun k run s.withoutDeliveries = ((decRun k run s).1, (decRun k run s).2.withoutDeliveries) :=
  Prod.ext (by simp) (by simp [setDec_withoutDeliveries])

theorem ncoStep_withoutDeliveries (x : Sample) (s : State) :
    ncoStep x s.withoutDeliveries = ((ncoStep x s).1, (ncoStep x s).2.withoutDeliveries) := by
  unfold ncoStep
  rw [withoutDeliveries_nco]
  split <;> rfl

theorem ncoEach_withoutDeliveries (run : List Sample) (s : State) :
    ncoEach run s.withoutDeliveries = ((ncoEach run s).1, (ncoEach run s).2.withoutDeliveries) := by
  induction run generalizing s with
  | nil => rfl
  | cons x xs ih => simp only [ncoEach_cons, ncoStep_withoutDeliveries, ih]

theorem ncoRun_withoutDeliveries (run : List Sample) (s : State) :
    ncoRun run s.withoutDeliveries = ((ncoRun run s).1, (ncoRun run s).2.withoutDeliveries) := by
  unfold ncoRun
  rw [withoutDeliveries_nco, ncoEach_withoutDeliveries]
  split <;> rfl

theorem aligned_withoutDeliveries (w : Nat) (bytes : List Byte) (f : List Byte → List Sample) (s : State) :
    aligned w bytes f s.withoutDeliveries = resWithoutDeliveries (aligned w bytes f s) := by
  unfold aligned
  split <;> rfl

theorem convert_withoutDeliveries (bytes : List Byte) (s : State) :
    convert bytes s.withoutDeliveries = resWithoutDeliveries (convert bytes s) := by
  unfold convert
  rw [withoutDeliveries_encValue]
  split <;> exact aligned_withoutDeliveries _ _ _ s

theorem carrySplit_withoutDeliveries (chunk : List Byte) (s : State) :
    carrySplit chunk s.withoutDeliveries =
      ((carrySplit chunk s).1, (carrySplit chunk s).2.withoutDeliveries) := rfl

theorem pushThrough_withoutDeliveries (data : List Byte) (s : State) :
    pushThrough data s.withoutDeliveries = resWithoutDeliveries (pushThrough data s) := by
  unfold pushThrough
  rw [carrySplit_withoutDeliveries]
  dsimp only
  rw [convert_withoutDeliveries]
  refine bind_withoutDeliveries _ fun x0 u => ?_
  simp only [ncoRun_withoutDeliveries, decRun_withoutDeliveries]
  rfl

/-! ## The framer -/

theorem tsAnchor_withoutDeliveries (s : State) :
    tsAnchor s.withoutDeliveries = (tsAnchor s).withoutDeliveries := by
  unfold tsAnchor
  rw [withoutDeliveries_anch]
  split
  · rfl
  · cases hclock : s.host.clock <;> simp [askClock, State.withoutDeliveries, hclock]

theorem tsHeader_withoutDeliveries (i : Nat) (s : State) :
    tsHeader i s.withoutDeliveries = ((tsHeader i s).1, (tsHeader i s).2.withoutDeliveries) := by
  simp only [tsHeader, tsAnchor_withoutDeliveries]
  rfl

/-- Results aside, a delivery appends its event and does nothing else. -/
theorem deliver_without_results (b : List Byte) (d : Nat) (s : State) :
    (deliver b d s).withoutDeliveries =
      { s.withoutDeliveries with out := s.withoutDeliveries.out ++ [⟨d, b, true⟩] } := by
  cases hemits : s.host.emits <;> simp [deliver, askEmit, State.withoutDeliveries, hemits]

theorem deliver_withoutDeliveries (b : List Byte) (d : Nat) (s : State) :
    (deliver b d s.withoutDeliveries).withoutDeliveries = (deliver b d s).withoutDeliveries := by
  rw [deliver_without_results, deliver_without_results, withoutDeliveries_withoutDeliveries]

theorem deliverFrom_withoutDeliveries (b : List Byte) (n d : Nat) (s : State) :
    (deliverFrom b n d s.withoutDeliveries).withoutDeliveries =
      (deliverFrom b n d s).withoutDeliveries := by
  induction n generalizing d s with
  | zero => exact withoutDeliveries_withoutDeliveries s
  | succ n ih => rw [deliverFrom, deliverFrom, ← ih, deliver_withoutDeliveries, ih]

theorem frmSend_withoutDeliveries (bytes : List Byte) (s : State) :
    (frmSend bytes s.withoutDeliveries).withoutDeliveries = (frmSend bytes s).withoutDeliveries :=
  deliverFrom_withoutDeliveries bytes s.der.ndest 0 s

theorem flushFrame_withoutDeliveries (n : Nat) (s : State) :
    (flushFrame n s.withoutDeliveries).withoutDeliveries = (flushFrame n s).withoutDeliveries := by
  have hpop : ({ s.withoutDeliveries with acc := s.withoutDeliveries.acc.drop n } : State) =
      State.withoutDeliveries { s with acc := s.acc.drop n } := rfl
  unfold flushFrame
  rw [hpop, withoutDeliveries_cnt, tsHeader_withoutDeliveries]
  exact congrArg (fun u : State => { u with cnt := s.cnt + n }) (frmSend_withoutDeliveries _ _)

theorem frmFlush_withoutDeliveries (s : State) :
    resWithoutDeliveries (frmFlush s.withoutDeliveries) = resWithoutDeliveries (frmFlush s) := by
  unfold frmFlush
  rw [withoutDeliveries_acc, withoutDeliveries_pktValue]
  split
  · rfl
  · exact congrArg (Res.ok ()) (flushFrame_withoutDeliveries _ s)

theorem flushLoop_withoutDeliveries (n : Nat) (s : State) :
    resWithoutDeliveries (flushLoop n s.withoutDeliveries) = resWithoutDeliveries (flushLoop n s) := by
  have hdone (s : State) : resWithoutDeliveries (.ok () s.withoutDeliveries) = resWithoutDeliveries (.ok () s) :=
    congrArg (Res.ok ()) (withoutDeliveries_withoutDeliveries s)
  induction n generalizing s with
  | zero =>
    rw [flushLoop, flushLoop, withoutDeliveries_acc, withoutDeliveries_pktValue]
    split
    · exact hdone s
    · rfl
  | succ n ih =>
    by_cases hq : s.acc.length < s.pktValue - 1
    · rw [flushLoop_done hq, flushLoop_done (s := s.withoutDeliveries) hq, hdone]
    · have hle : s.pktValue - 1 ≤ s.acc.length := by omega
      rw [flushLoop_turn hle, flushLoop_turn (s := s.withoutDeliveries) hle, withoutDeliveries_pktValue,
        ← ih, flushFrame_withoutDeliveries, ih]

theorem pushData_withoutDeliveries (data : List Byte) (s : State) :
    resWithoutDeliveries (pushData data s.withoutDeliveries) = resWithoutDeliveries (pushData data s) := by
  unfold pushData
  rw [pushThrough_withoutDeliveries]
  cases pushThrough data s with
  | ok ys u => exact flushLoop_withoutDeliveries _ (frmAccum ys u)
  | raised u => exact congrArg Res.raised (withoutDeliveries_withoutDeliveries u)
  | fault f => rfl

/-! ## START -/

theorem askParsable_withoutDeliveries (addr : List Byte) (s : State) :
    askParsable addr s.withoutDeliveries =
      ((askParsable addr s).1, (askParsable addr s).2.withoutDeliveries) := by
  cases hscript : s.host.parsable <;> simp [askParsable, State.withoutDeliveries, hscript]

theorem askSinkOpen_withoutDeliveries (addr : List Byte) (ports : List Nat) (s : State) :
    askSinkOpen addr ports s.withoutDeliveries =
      ((askSinkOpen addr ports s).1, (askSinkOpen addr ports s).2.withoutDeliveries) := by
  cases hscript : s.host.sinkOpen <;> simp [askSinkOpen, State.withoutDeliveries, hscript]

theorem takeError_withoutDeliveries (e : Err) (info : Nat) (s : State) :
    (takeError e info s.withoutDeliveries).withoutDeliveries = (takeError e info s).withoutDeliveries :=
  withoutDeliveries_withoutDeliveries (takeError e info s)

theorem buildPipeline_withoutDeliveries (c : Settings) (s : State) :
    (buildPipeline c s.withoutDeliveries).withoutDeliveries = (buildPipeline c s).withoutDeliveries :=
  withoutDeliveries_withoutDeliveries (buildPipeline c s)

theorem openAndBuild_withoutDeliveries (c : Settings) (s : State) :
    (openAndBuild c s.withoutDeliveries).withoutDeliveries = (openAndBuild c s).withoutDeliveries := by
  unfold openAndBuild
  rw [askSinkOpen_withoutDeliveries]
  dsimp only
  split
  · exact congrArg (State.respond · .done) (buildPipeline_withoutDeliveries c _)
  · exact takeError_withoutDeliveries _ _ _

theorem startFromAddr_withoutDeliveries (c : Settings) (s : State) :
    (startFromAddr c s.withoutDeliveries).withoutDeliveries = (startFromAddr c s).withoutDeliveries := by
  unfold startFromAddr
  rw [askParsable_withoutDeliveries, withoutDeliveries_params]
  dsimp only
  split
  · exact takeError_withoutDeliveries _ _ _
  · split
    · exact takeError_withoutDeliveries _ _ _
    · split
      · exact openAndBuild_withoutDeliveries c (loadDerived c _)
      · exact takeError_withoutDeliveries _ _ (loadDerived c _)

theorem startUp_withoutDeliveries (s : State) :
    (startUp s.withoutDeliveries).withoutDeliveries = (startUp s).withoutDeliveries := by
  unfold startUp
  rw [withoutDeliveries_cfg, withoutDeliveries_params]
  split
  · exact takeError_withoutDeliveries _ _ s
  · split
    · exact takeError_withoutDeliveries _ _ s
    · exact startFromAddr_withoutDeliveries _ s

/-! ## Every operation -/

/-- What an operation but STATRD leaves, delivery results aside, is the same where they are left out beforehand. -/
theorem exec_withoutDeliveries {i : Instr} (hi : ∀ reg idx, i ≠ .statrd reg idx) (s : State) :
    outcomeWithoutDeliveries (exec i s.withoutDeliveries) = outcomeWithoutDeliveries (exec i s) := by
  have haligned (w : Nat) (bytes : List Byte) (f : List Byte → List Sample) :
      resWithoutDeliveries (aligned w bytes f s.withoutDeliveries) =
        resWithoutDeliveries (aligned w bytes f s) := by
    rw [aligned_withoutDeliveries, resWithoutDeliveries_resWithoutDeliveries]
  cases i with
  | statrd reg idx => exact absurd rfl (hi reg idx)
  | reset => exact next_withoutDeliveries rfl
  | cfgwr reg value => exact acceptedIn_withoutDeliveries (next_withoutDeliveries rfl)
  | start =>
    exact acceptedIn_withoutDeliveries (congrArg Host.Outcome.next (startUp_withoutDeliveries s))
  | push data =>
    exact acceptedIn_withoutDeliveries (outcome_withoutDeliveries _ (pushData_withoutDeliveries data s))
  | eos => exact acceptedIn_withoutDeliveries (next_withoutDeliveries rfl)
  | cancel => exact acceptedIn_withoutDeliveries (next_withoutDeliveries rfl)
  | reanchor => exact acceptedIn_withoutDeliveries (next_withoutDeliveries rfl)
  | lpfDesign taps cutoff => exact next_withoutDeliveries rfl
  | decStep k x => exact handBack_withoutDeliveries _ (decStep_withoutDeliveries k x s)
  | decRun k run => exact handBack_withoutDeliveries _ (decRun_withoutDeliveries k run s)
  | ncoStep x => exact handBack_withoutDeliveries (.samples [·]) (ncoStep_withoutDeliveries x s)
  | ncoRun run => exact handBack_withoutDeliveries _ (ncoRun_withoutDeliveries run s)
  | carrySplit chunk => exact handBack_withoutDeliveries _ (carrySplit_withoutDeliveries chunk s)
  | convS16 bytes => exact outcome_withoutDeliveries _ (haligned _ _ _)
  | convF32 bytes => exact outcome_withoutDeliveries _ (haligned _ _ _)
  | tsAnchor => exact next_withoutDeliveries (congrArg (State.respond · .done) (tsAnchor_withoutDeliveries s))
  | tsHeader n => exact handBack_withoutDeliveries (.samples [·]) (tsHeader_withoutDeliveries n s)
  | frmAccum run => exact next_withoutDeliveries rfl
  | frmFlush => exact outcome_withoutDeliveries _ (frmFlush_withoutDeliveries s)
  | frmSend bytes =>
    exact congrArg (fun u : State => Host.Outcome.next (u.respond .done)) (frmSend_withoutDeliveries bytes s)

/-- Settles O60: the two states are the same where the delivery results are left out, and an operation but STATRD does
as much there, results aside, as on each of them. -/
theorem deliveryResultsReachNothingElse : Obligations.DeliveryResultsReachNothingElse := by
  unfold Obligations.DeliveryResultsReachNothingElse
  intro i s s' t t' hi hs h h'
  have hsame : outcomeWithoutDeliveries (exec i s) = outcomeWithoutDeliveries (exec i s') :=
    calc outcomeWithoutDeliveries (exec i s)
      _ = outcomeWithoutDeliveries (exec i s.withoutDeliveries) := (exec_withoutDeliveries hi s).symm
      _ = outcomeWithoutDeliveries (exec i s'.withoutDeliveries) := by rw [hs]
      _ = outcomeWithoutDeliveries (exec i s') := exec_withoutDeliveries hi s'
  rw [h, h'] at hsame
  exact Host.Outcome.next.inj hsame

end Sys2Proof.Proofs

/-! The input side of PUSH (spec/46_pipeline_control.md R255) in closed form: the samples a chunk completes, the
outputs of stage 3, and the state behind them, each a function of the carry, the oscillator and the stages alone. -/

namespace Sys2Proof.Proofs

open Sys2Proof.Machine Sys2Proof.Laws

/-! ## The converter, block by block -/

/-- The converter makes one sample of each block of `width` bytes (43_sample_converter R191, R192). -/
structure ConvertsBlocks (width : Nat) (f : List Byte → List Sample) : Prop where
  nil : f [] = []
  block : ∀ block : List Byte, block.length = width → ∃ x, ∀ rest, f (block ++ rest) = x :: f rest

theorem samplesS16_convertsBlocks : ConvertsBlocks 4 samplesS16 where
  nil := rfl
  block := fun block h => match block, h with
    | [_, _, _, _], _ => ⟨_, fun _ => rfl⟩

theorem samplesF32_convertsBlocks (e : Endian) : ConvertsBlocks 8 (samplesF32 e) where
  nil := rfl
  block := fun block h => match block, h with
    | [_, _, _, _, _, _, _, _], _ => ⟨_, fun _ => rfl⟩

theorem ConvertsBlocks.length {width : Nat} {f : List Byte → List Sample} (hf : ConvertsBlocks width f)
    (hw : 0 < width) {bytes : List Byte} (h : bytes.length % width = 0) :
    (f bytes).length = bytes.length / width := by
  induction bytes, h using wholeSamples_induction with
  | nil => rw [hf.nil, List.length_nil, List.length_nil, Nat.zero_div]
  | append block rest hblock hrest ih =>
    obtain ⟨x, hx⟩ := hf.block block hblock
    rw [hx, List.length_cons, ih, List.length_append, hblock, Nat.add_div_left _ hw]

theorem ConvertsBlocks.append {width : Nat} {f : List Byte → List Sample} (hf : ConvertsBlocks width f)
    {a : List Byte} (h : a.length % width = 0) (b : List Byte) : f (a ++ b) = f a ++ f b := by
  induction a, h using wholeSamples_induction with
  | nil => rw [hf.nil]; rfl
  | append block rest hblock hrest ih =>
    obtain ⟨x, hx⟩ := hf.block block hblock
    rw [List.append_assoc, hx, ih, hx, List.cons_append]

/-- The samples of a byte run under the latched encoding (43 R193). -/
def convertedSamples (s : State) (bytes : List Byte) : List Sample :=
  if s.encValue = 0 then samplesS16 bytes else samplesF32 s.params.endian bytes

theorem convertedSamples_convertsBlocks (s : State) :
    ConvertsBlocks (bpsOf s.encValue) (convertedSamples s) := by
  unfold bpsOf convertedSamples
  split
  · exact samplesS16_convertsBlocks
  · exact samplesF32_convertsBlocks s.params.endian

theorem convert_of_whole {s : State} {bytes : List Byte} (h : bytes.length % bpsOf s.encValue = 0) :
    convert bytes s = .ok (convertedSamples s bytes) s := by
  unfold convert convertedSamples
  unfold bpsOf at h
  split
  · next henc => exact aligned_of_whole (by rwa [if_pos henc] at h) _ s
  · next henc => exact aligned_of_whole (by rwa [if_neg henc] at h) _ s

/-! ## The oscillator -/

/-- What NCO.RUN returns (42_frequency_shifter R172, R175). -/
def rotatedRun (p : Params) (o : Nco) (run : List Sample) : List Sample :=
  if o.bypass then run
  else run.mapIdx fun i x => numRotate p x (phaseAfter p o.step i o.phase)

/-- The oscillator after `n` samples. -/
def advancedNco (p : Params) (o : Nco) (n : Nat) : Nco :=
  if o.bypass then o else { o with phase := phaseAfter p o.step n o.phase }

theorem ncoRun_eq (run : List Sample) (s : State) :
    ncoRun run s = (rotatedRun s.params s.nco run,
      { s with nco := advancedNco s.params s.nco run.length }) := by
  cases h : s.nco.bypass with
  | true => simp [ncoRun_bypassed h, rotatedRun, advancedNco, h]
  | false =>
    have hout : (ncoEach run s).1 = rotatedRun s.params s.nco run := by
      refine List.ext_getElem? fun i => ?_
      simp [ncoEach_getElem? h, rotatedRun, h]
    rw [ncoRun_each h, ← hout, advancedNco, if_neg (by simp [h])]
    exact Prod.ext rfl (ncoEach_state h run)

theorem rotatedRun_length (p : Params) (o : Nco) (run : List Sample) :
    (rotatedRun p o run).length = run.length := by
  unfold rotatedRun
  split <;> simp

theorem phaseAfter_add (p : Params) (step : F64) (m n : Nat) (phase : F64) :
    phaseAfter p step (m + n) phase = phaseAfter p step m (phaseAfter p step n phase) :=
  Function.iterate_add_apply _ m n phase

theorem rotatedRun_append (p : Params) (o : Nco) (a b : List Sample) :
    rotatedRun p o (a ++ b) = rotatedRun p o a ++ rotatedRun p (advancedNco p o a.length) b := by
  cases h : o.bypass <;> simp [rotatedRun, advancedNco, h, List.mapIdx_append, phaseAfter_add]

theorem advancedNco_add (p : Params) (o : Nco) (m n : Nat) :
    advancedNco p o (m + n) = advancedNco p (advancedNco p o m) n := by
  rw [Nat.add_comm]
  cases h : o.bypass <;> simp [advancedNco, h, phaseAfter_add]

/-! ## From the chunk to the outputs of stage 3 -/

/-- The samples a chunk completes (43 R190, R193). -/
def arrived (data : List Byte) (s : State) : List Sample := convertedSamples s (carrySplit data s).1

/-- Those samples behind the oscillator. -/
def rotated (data : List Byte) (s : State) : List Sample := rotatedRun s.params s.nco (arrived data s)

/-- The outputs of stage 1. -/
def outputs1 (data : List Byte) (s : State) : List Sample := runOutputs s.params .s1 (rotated data s) s.dec1

/-- The outputs of stage 2. -/
def outputs2 (data : List Byte) (s : State) : List Sample := runOutputs s.params .s2 (outputs1 data s) s.dec2

/-- The outputs of stage 3, which go to the framer. -/
def outputs3 (data : List Byte) (s : State) : List Sample := runOutputs s.params .s3 (outputs2 data s) s.dec3

/-- The state the input side of PUSH leaves. -/
def fed (data : List Byte) (s : State) : State :=
  { s with
    carry := (carrySplit data s).2.carry
    nco := advancedNco s.params s.nco (arrived data s).length
    dec1 := writtenRun .s1 (rotated data s) s.dec1
    dec2 := writtenRun .s2 (outputs1 data s) s.dec2
    dec3 := writtenRun .s3 (outputs2 data s) s.dec3 }

theorem carrySplit_released_whole (data : List Byte) (s : State) :
    (carrySplit data s).1.length % s.der.bps = 0 := by
  rw [carrySplit_released_length, Nat.mul_mod_left]

theorem pushThrough_eq_fed (data : List Byte) {s : State} (h : s.der.bps = bpsOf s.encValue) :
    pushThrough data s = .ok (outputs3 data s) (fed data s) := by
  have hwhole : (carrySplit data s).1.length % bpsOf s.encValue = 0 := by
    rw [← h, carrySplit_released_whole]
  have hconvert : convert (carrySplit data s).1 (carrySplit data s).2 =
      .ok (arrived data s) (carrySplit data s).2 := convert_of_whole hwhole
  unfold pushThrough
  dsimp only
  rw [hconvert, bind_ok, ncoRun_eq]
  simp only [decRun_result, decRun_state]
  rfl

theorem arrived_length (data : List Byte) {s : State} (h : s.der.bps = bpsOf s.encValue) :
    (arrived data s).length = (s.carry.length + data.length) / s.der.bps := by
  have hpos : 0 < s.der.bps := h ▸ bpsOf_pos _
  rw [arrived, (convertedSamples_convertsBlocks s).length (bpsOf_pos _) (h ▸ carrySplit_released_whole data s),
    carrySplit_released_length, ← h, Nat.mul_div_cancel _ hpos]

section

variable (a b : List Byte) {s : State}

theorem arrived_append (h : s.der.bps = bpsOf s.encValue) :
    arrived (a ++ b) s = arrived a s ++ arrived b (fed a s) := by
  rw [arrived, carrySplit_append,
    (convertedSamples_convertsBlocks s).append (h ▸ carrySplit_released_whole a s)]
  rfl

theorem rotated_append (h : s.der.bps = bpsOf s.encValue) :
    rotated (a ++ b) s = rotated a s ++ rotated b (fed a s) := by
  rw [rotated, arrived_append a b h, rotatedRun_append]
  rfl

theorem outputs1_append (h : s.der.bps = bpsOf s.encValue) :
    outputs1 (a ++ b) s = outputs1 a s ++ outputs1 b (fed a s) := by
  rw [outputs1, rotated_append a b h, runOutputs_append]
  rfl

theorem outputs2_append (h : s.der.bps = bpsOf s.encValue) :
    outputs2 (a ++ b) s = outputs2 a s ++ outputs2 b (fed a s) := by
  rw [outputs2, outputs1_append a b h, runOutputs_append]
  rfl

theorem outputs3_append (h : s.der.bps = bpsOf s.encValue) :
    outputs3 (a ++ b) s = outputs3 a s ++ outputs3 b (fed a s) := by
  rw [outputs3, outputs2_append a b h, runOutputs_append]
  rfl

/-- Two chunks fed one after the other leave the input side as the one chunk of both (43 R190, 41 R157, 42 R177). -/
theorem fed_append (h : s.der.bps = bpsOf s.encValue) : fed (a ++ b) s = fed b (fed a s) := by
  have hcarry : (carrySplit (a ++ b) s).2.carry = (carrySplit b (fed a s)).2.carry := by
    rw [carrySplit_append]
    rfl
  simp only [fed, hcarry, arrived_append a b h, rotated_append a b h, outputs1_append a b h,
    outputs2_append a b h, List.length_append, advancedNco_add, writtenRun_append]

end

end Sys2Proof.Proofs

/-! The flush loop in closed form (spec/45_framer_streamer.md R233): as many flushes of one payload as the queue has
payloads. With the input side it gives PUSH as an equation, and every count of a PUSH from the lengths alone
(46_pipeline_control.md R255, R236). -/

namespace Sys2Proof.Proofs

open Sys2Proof.Machine Sys2Proof.Laws

/-! ## Deliveries and their events -/

/-- Between `s` and `t` the deliveries `es` were made and no others (45 R234): they stand at the end of the history,
their results are the host's answers, the scripted ones first (log 9), and their failures are counted. -/
structure Delivered (es : List Event) (s t : State) : Prop where
  out : t.out = s.out ++ es
  emits : t.host.emits = s.host.emits.drop es.length
  scripted : ∀ j, j < es.length → j < s.host.emits.length → es[j]?.map Event.ok = s.host.emits[j]?
  failures : ∀ d, t.dfail.getD d 0 = s.dfail.getD d 0 + es.countP fun e => e.dest == d && !e.ok

theorem Delivered.of_eq {s t : State} (hout : t.out = s.out) (hemits : t.host.emits = s.host.emits)
    (hdfail : t.dfail = s.dfail) : Delivered [] s t where
  out := by rw [hout, List.append_nil]
  emits := hemits
  scripted := fun j hj => absurd hj (Nat.not_lt_zero j)
  failures := fun d => by rw [hdfail]; rfl

theorem Delivered.trans {es fs : List Event} {s t u : State} (hst : Delivered es s t)
    (htu : Delivered fs t u) : Delivered (es ++ fs) s u where
  out := by rw [htu.out, hst.out, List.append_assoc]
  emits := by rw [htu.emits, hst.emits, List.drop_drop, List.length_append]
  scripted := fun j hj hscript => by
    obtain hlt | hge := Nat.lt_or_ge j es.length
    · rw [List.getElem?_append_left hlt]
      exact hst.scripted j hlt hscript
    · have hlater := htu.scripted (j - es.length) (by rw [List.length_append] at hj; omega)
        (by rw [hst.emits, List.length_drop]; omega)
      rw [List.getElem?_append_right hge, hlater, hst.emits, List.getElem?_drop, Nat.add_sub_cancel' hge]
  failures := fun d => by rw [htu.failures, hst.failures, List.countP_append, Nat.add_assoc]

theorem deliver_delivered (b : List Byte) (d : Nat) (s : State) :
    Delivered [⟨d, b, (askEmit s).1⟩] s (deliver b d s) where
  out := deliver_out b d s
  emits := by rw [deliver_emits, ← List.drop_one]; rfl
  scripted := fun j hj hscript => by
    obtain rfl : j = 0 := Nat.lt_one_iff.mp hj
    exact (askEmit_of_scripted hscript).symm
  failures := fun e => by
    rw [deliver_dfail_getD, List.countP_singleton]
    simp [eq_comm (a := e)]

/-- The events of deliveries to `n` destinations from `d` on. -/
def sentEvents (b : List Byte) : Nat → Nat → State → List Event
  | 0, _, _ => []
  | n + 1, d, s => ⟨d, b, (askEmit s).1⟩ :: sentEvents b n (d + 1) (deliver b d s)

theorem deliverFrom_delivered (b : List Byte) (n d : Nat) (s : State) :
    Delivered (sentEvents b n d s) s (deliverFrom b n d s) := by
  induction n generalizing d s with
  | zero => exact .of_eq rfl rfl rfl
  | succ n ih => exact (deliver_delivered b d s).trans (ih (d + 1) (deliver b d s))

/-- What an event hands to whom. -/
def handedOver (e : Event) : Nat × List Byte := (e.dest, e.bytes)

theorem sentEvents_handed (b : List Byte) (n d : Nat) (s : State) :
    (sentEvents b n d s).map handedOver = (List.range' d n).map fun e => (e, b) := by
  induction n generalizing d s with
  | zero => rfl
  | succ n ih => rw [sentEvents, List.map_cons, ih, List.range'_succ, List.map_cons]; rfl

/-- One flush hands its bytes to every destination in order (45 R231, R234). -/
theorem flushFrame_delivered (n : Nat) (s : State) :
    ∃ es, Delivered es s (flushFrame n s) ∧
      es.map handedOver = (List.range s.der.ndest).map fun d => (d, flushBytes n s) := by
  refine ⟨sentEvents (flushBytes n s) s.der.ndest 0 (poppedAndAnchored n s), ?_, ?_⟩
  · have hpopped : Delivered [] s (poppedAndAnchored n s) :=
      .of_eq (poppedAndAnchored_out n s) (poppedAndAnchored_emits n s) (poppedAndAnchored_dfail n s)
    have hsent := deliverFrom_delivered (flushBytes n s) s.der.ndest 0 (poppedAndAnchored n s)
    obtain ⟨hout, hemits, hscripted, hfailures⟩ := hpopped.trans hsent
    rw [flushFrame_eq_deliveries]
    exact ⟨hout, hemits, hscripted, hfailures⟩
  · rw [sentEvents_handed, List.range_eq_range']

/-! ## Flushes in a row -/

/-- `f` flushes of `n` samples each. -/
def flushes (n f : Nat) (s : State) : State := (flushFrame n)^[f] s

theorem flushes_succ (n f : Nat) (s : State) : flushes n (f + 1) s = flushFrame n (flushes n f s) :=
  Function.iterate_succ_apply' _ f s

theorem flushes_add (n f g : Nat) (s : State) : flushes n (f + g) s = flushes n g (flushes n f s) := by
  rw [Nat.add_comm]
  exact Function.iterate_add_apply _ g f s

/-- Every whole payload queued is flushed. -/
def drained (n : Nat) (s : State) : State := flushes n (s.acc.length / n) s

/-- With enough fuel the flush loop drains the queue. -/
theorem flushLoop_eq_drained {m : Nat} {s : State} (hp : 2 ≤ s.pktValue) (hm : s.acc.length ≤ m) :
    flushLoop m s = .ok () (drained (s.pktValue - 1) s) := by
  induction m generalizing s with
  | zero =>
    rw [flushLoop_done (by omega), drained, Nat.le_zero.mp hm, Nat.zero_div]
    rfl
  | succ m ih =>
    obtain hq | hq := Nat.lt_or_ge s.acc.length (s.pktValue - 1)
    · rw [flushLoop_done hq, drained, Nat.div_eq_of_lt hq]
      rfl
    · rw [flushLoop_turn hq, ih (by rwa [flushFrame_pktValue])
        (by rw [flushFrame_acc, List.length_drop]; omega), flushFrame_pktValue, drained, drained,
        flushFrame_acc, List.length_drop, Nat.div_eq_sub_div (by omega) hq]
      rfl

theorem flushes_frame (n f : Nat) (s : State) :
    flushes n f s = { s with
      acc := (flushes n f s).acc, cnt := (flushes n f s).cnt, anch := (flushes n f s).anch,
      dfail := (flushes n f s).dfail, out := (flushes n f s).out, host := (flushes n f s).host } := by
  induction f with
  | zero => rfl
  | succ f ih => rw [flushes_succ, flushFrame_frame, ih]

theorem flushes_acc (n f : Nat) (s : State) : (flushes n f s).acc = s.acc.drop (f * n) := by
  induction f with
  | zero => rw [Nat.zero_mul]; rfl
  | succ f ih => rw [flushes_succ, flushFrame_acc, ih, List.drop_drop, Nat.succ_mul]

/-- What is left to drain after some flushes is what was there to drain without them. -/
theorem drained_flushes {n f : Nat} {s : State} (hn : 0 < n) (h : f * n ≤ s.acc.length) :
    drained n (flushes n f s) = drained n s := by
  have hf : f ≤ s.acc.length / n := (Nat.le_div_iff_mul_le hn).mpr h
  have hleft : (flushes n f s).acc.length / n = s.acc.length / n - f := by
    rw [flushes_acc, List.length_drop, Nat.mul_comm, Nat.sub_mul_div]
  rw [drained, hleft, ← flushes_add, Nat.add_sub_cancel' hf, drained]

theorem flushes_cnt (n f : Nat) (s : State) : (flushes n f s).cnt = s.cnt + f * n := by
  induction f with
  | zero => rw [Nat.zero_mul]; rfl
  | succ f ih => rw [flushes_succ, flushFrame_cnt, ih, Nat.succ_mul, Nat.add_assoc]

/-- Every header after the first is of the anchor the first has taken. -/
theorem headerTime_flushFrame (i n : Nat) (s : State) : headerTime i (flushFrame n s) = headerTime i s := by
  have hheld : tsAnchor (flushFrame n s) = flushFrame n s :=
    tsAnchor_of_valid (by rw [flushFrame_anch, tsAnchor_valid])
  have hoffset : tsOffset i (flushFrame n s) = tsOffset i s := by rw [flushFrame_frame]; rfl
  rw [headerTime, hheld, flushFrame_anch, hoffset, headerTime]

theorem headerTime_flushes (i n f : Nat) (s : State) : headerTime i (flushes n f s) = headerTime i s := by
  induction f with
  | zero => rfl
  | succ f ih => rw [flushes_succ, headerTime_flushFrame, ih]

theorem flushes_anch_valid {n f : Nat} (h : 0 < f) (s : State) : (flushes n f s).anch.valid = true := by
  cases f with
  | zero => exact absurd h (Nat.lt_irrefl 0)
  | succ f => rw [flushes_succ, flushFrame_anch, tsAnchor_valid]

/-- The bytes of frame `j` of a row of flushes: the header of its first payload sample, and its payload
(45 R231, R235). -/
def frameBytes (n : Nat) (s : State) (j : Nat) : List Byte :=
  serialise s.params.endian
    (headerWords (headerTime (s.cnt + j * n) s) :: (s.acc.drop (j * n)).take n)

theorem flushBytes_flushes (n j : Nat) (s : State) : flushBytes n (flushes n j s) = frameBytes n s j := by
  have hparams : (flushes n j s).params = s.params := by rw [flushes_frame]
  rw [flushBytes, frameBytes, hparams, flushes_cnt, flushes_acc, headerTime_flushes]

/-- Flushes in a row deliver frame after frame, each to every destination in order. -/
theorem flushes_delivered (n f : Nat) (s : State) :
    ∃ es, Delivered es s (flushes n f s) ∧
      es.map handedOver =
        (List.range f).flatMap fun j => (List.range s.der.ndest).map fun d => (d, frameBytes n s j) := by
  induction f with
  | zero => exact ⟨[], .of_eq rfl rfl rfl, rfl⟩
  | succ f ih =>
    obtain ⟨es, hes, hframes⟩ := ih
    obtain ⟨fs, hfs, hframe⟩ := flushFrame_delivered n (flushes n f s)
    have hndest : (flushes n f s).der.ndest = s.der.ndest := by rw [flushes_frame]
    refine ⟨es ++ fs, flushes_succ n f s ▸ hes.trans hfs, ?_⟩
    rw [List.map_append, hframes, hframe, flushBytes_flushes, hndest, List.range_succ, List.flatMap_append,
      List.flatMap_singleton]

theorem flushes_out_length (n f : Nat) (s : State) :
    (flushes n f s).out.length = s.out.length + s.der.ndest * f := by
  obtain ⟨es, hes, hframes⟩ := flushes_delivered n f s
  have hlen : es.length = s.der.ndest * f := by
    rw [← List.length_map handedOver, hframes]
    simp [Nat.mul_comm]
  rw [hes.out, List.length_append, hlen]

end Sys2Proof.Proofs

/-! PUSH in a run as an equation (spec/46_pipeline_control.md R255): the input side feeds the queue, and every whole
payload in it is flushed. -/

namespace Sys2Proof.Proofs

open Sys2Proof.Machine Sys2Proof.Laws

theorem settingsOf_enc {r : CfgRegs} {c : Settings} (h : settingsOf r = some c) : r.enc = some c.enc := by
  unfold settingsOf at h
  split at h
  · next henc => cases h; exact henc
  · cases h

section

variable {c : Settings} {s : State}

theorem configured_encValue (h : Configured c s) : s.encValue = c.enc := by
  obtain ⟨hwritten, -⟩ := h
  rw [State.encValue, settingsOf_enc hwritten, Option.getD_some]

theorem configured_two_le_pkt (h : Configured c s) : 2 ≤ c.pkt := by
  obtain ⟨-, hbefore, -⟩ := h
  exact checkBeforeAddr_two_le_pkt hbefore

/-- A sample's width is that of the latched encoding (10_state R28). -/
theorem configured_width (h : Configured c s) : s.der.bps = bpsOf s.encValue := by
  rw [configured_bps h, configured_encValue h]

/-- The state before the flush loop: the outputs of stage 3 behind the queue. -/
def queued (data : List Byte) (s : State) : State := frmAccum (outputs3 data s) (fed data s)

theorem queued_acc_length (data : List Byte) (s : State) :
    (queued data s).acc.length = s.acc.length + (outputs3 data s).length :=
  List.length_append

/-- The state a PUSH leaves, `n` samples making a payload. -/
def pushed (n : Nat) (data : List Byte) (s : State) : State := drained n (queued data s)

theorem pushData_eq_pushed (h : Configured c s) (data : List Byte) :
    pushData data s = .ok () (pushed (c.pkt - 1) data s) := by
  have hpkt : s.pktValue = c.pkt := configured_pktValue h
  have hloop := flushLoop_eq_drained (s := queued data s) (hpkt ▸ configured_two_le_pkt h)
    (queued_acc_length data s).le
  rw [pushed, ← hpkt, pushData, pushThrough_eq_fed data (configured_width h)]
  exact hloop

theorem exec_push_eq_pushed (h : Running c s) (data : List Byte) :
    exec (.push data) s = .next ((pushed (c.pkt - 1) data s).respond .done) := by
  have hexec : exec (.push data) s = (pushData data s).outcome fun _ => .done := acceptedIn_self h.running
  rw [hexec, pushData_eq_pushed h.configured]
  rfl

theorem running_respond (h : Running c s) (r : Resp) : Running c (s.respond r) := by
  obtain ⟨⟨hrun, hconf, hstages, hcarry, hcnt, hdfail, hanch⟩, hqueue⟩ := h
  exact ⟨⟨hrun, configured_of_frozen hconf rfl rfl rfl rfl rfl, hstages, hcarry, hcnt, hdfail, hanch⟩, hqueue⟩

theorem running_pushed (h : Running c s) (data : List Byte) :
    Running c ((pushed (c.pkt - 1) data s).respond .done) :=
  running_respond (running_pushData h (pushData_eq_pushed h.configured data)) .done

end

/-! ## The counts of a PUSH -/

section

variable {s : State} (data : List Byte)

theorem stagesShaped_ph (h : StagesShaped s) (k : Stage) : (s.dec k).ph < Config.factor k := by
  obtain ⟨-, -, -, hph⟩ := h k
  exact hph

theorem rotated_length : (rotated data s).length = (arrived data s).length := rotatedRun_length _ _ _

theorem outputs1_length (h : StagesShaped s) :
    (outputs1 data s).length = (s.dec1.ph + (arrived data s).length) / 8 := by
  rw [← rotated_length]
  exact runOutputs_length s.params .s1 _ (stagesShaped_ph h .s1)

theorem outputs2_length (h : StagesShaped s) :
    (outputs2 data s).length = (s.dec2.ph + (outputs1 data s).length) / 5 :=
  runOutputs_length s.params .s2 _ (stagesShaped_ph h .s2)

theorem outputs3_length (h : StagesShaped s) :
    (outputs3 data s).length = (s.dec3.ph + (outputs2 data s).length) / 5 :=
  runOutputs_length s.params .s3 _ (stagesShaped_ph h .s3)

theorem fed_dec1_ph (h : StagesShaped s) :
    (fed data s).dec1.ph = (s.dec1.ph + (arrived data s).length) % 8 := by
  rw [← rotated_length]
  exact writtenRun_ph .s1 _ (stagesShaped_ph h .s1)

theorem fed_dec2_ph (h : StagesShaped s) :
    (fed data s).dec2.ph = (s.dec2.ph + (outputs1 data s).length) % 5 :=
  writtenRun_ph .s2 _ (stagesShaped_ph h .s2)

theorem fed_dec3_ph (h : StagesShaped s) :
    (fed data s).dec3.ph = (s.dec3.ph + (outputs2 data s).length) % 5 :=
  writtenRun_ph .s3 _ (stagesShaped_ph h .s3)

end

/-- Settles O36: PUSH is an equation, whose lengths are those of the carry split, of the three stages one after the
other, and of as many flushes as the queue has payloads. -/
theorem pushCompletesAndCounts : Obligations.PushCompletesAndCounts := by
  unfold Obligations.PushCompletesAndCounts
  intro c s data N n1 n2 n3 frames h hN hn1 hn2 hn3 hframes
  have hbps := configured_bps h.configured
  have harrived : (arrived data s).length = N := by
    rw [arrived_length data (configured_width h.configured), hbps, hN]
  have h1 : (outputs1 data s).length = n1 := by rw [outputs1_length data h.stages, harrived, hn1]
  have h2 : (outputs2 data s).length = n2 := by rw [outputs2_length data h.stages, h1, hn2]
  have h3 : (outputs3 data s).length = n3 := by rw [outputs3_length data h.stages, h2, hn3]
  have hpushed : pushed (c.pkt - 1) data s = flushes (c.pkt - 1) frames (queued data s) := by
    rw [pushed, drained, queued_acc_length, h3, ← hframes]
  have hframe := pushData_frame (pushData_eq_pushed h.configured data)
  refine ⟨_, exec_push_eq_pushed h data, running_pushed h data, ?_, ?_, ?_, ?_, ?_, ?_, ?_, fun hnone => ?_,
    rfl, congrArg (State.respond · .done) hframe⟩
  · rw [hpushed, flushes_frame, ← hbps]
    exact carrySplit_carry_length data s
  · rw [hpushed, flushes_frame, ← harrived]
    exact fed_dec1_ph data h.stages
  · rw [hpushed, flushes_frame, ← h1]
    exact fed_dec2_ph data h.stages
  · rw [hpushed, flushes_frame, ← h2]
    exact fed_dec3_ph data h.stages
  · rw [respond_acc, hpushed, flushes_acc, List.length_drop, queued_acc_length, h3, hframes,
      ← Nat.mod_eq_sub_div_mul]
  · rw [respond_cnt, hpushed, flushes_cnt]
    rfl
  · rw [respond_out, hpushed, flushes_out_length, ← configured_ndest h.configured]
    rfl
  · rw [hpushed, hnone]
    exact ⟨rfl, rfl⟩

/-! ## The empty PUSH -/

theorem carrySplit_nil {s : State} (h : s.carry.length < s.der.bps) : carrySplit [] s = ([], s) := by
  simp [carrySplit_eq, Nat.div_eq_of_lt h]

theorem fed_nil {s : State} (h : s.carry.length < s.der.bps) : fed [] s = s ∧ outputs3 [] s = [] := by
  have harrived : arrived [] s = [] := by
    rw [arrived, carrySplit_nil h]
    exact (convertedSamples_convertsBlocks s).nil
  have hrotated : rotated [] s = [] := by
    rw [← List.length_eq_zero_iff, rotated_length, harrived, List.length_nil]
  have h1 : outputs1 [] s = [] := by rw [outputs1, hrotated]; rfl
  have h2 : outputs2 [] s = [] := by rw [outputs2, h1]; rfl
  have h3 : outputs3 [] s = [] := by rw [outputs3, h2]; rfl
  have hnco : advancedNco s.params s.nco 0 = s.nco := by
    unfold advancedNco
    split <;> rfl
  refine ⟨?_, h3⟩
  rw [fed, carrySplit_nil h, harrived, hrotated, h1, h2, List.length_nil, hnco]
  rfl

/-- Settles O40: no sample is completed, and the queue holds less than a payload. -/
theorem emptyPushDoesNothing : Obligations.EmptyPushDoesNothing := by
  unfold Obligations.EmptyPushDoesNothing
  intro c s h
  obtain ⟨hfed, hout⟩ := fed_nil (s := s) (configured_bps h.configured ▸ h.carry)
  have hpushed : pushed (c.pkt - 1) [] s = s := by
    rw [pushed, queued, hfed, hout, frmAccum, List.append_nil, drained, Nat.div_eq_of_lt h.queue]
    rfl
  rw [exec_push_eq_pushed h, hpushed]
  rfl

/-! ## From a fresh pipeline -/

theorem configured_ports_ne_nil {c : Settings} {s : State} (h : Configured c s) : c.ports ≠ [] := by
  obtain ⟨-, -, hafter, -⟩ := h
  intro hnil
  simp [checkAfterAddr, hnil] at hafter

/-- Settles O37: with every phase 0 the three stages divide by 8, 5 and 5, and there is a destination to deliver to. -/
theorem freshRunFrameCounts : Obligations.FreshRunFrameCounts := by
  unfold Obligations.FreshRunFrameCounts
  intro c s t data M h hcarry hacc hcnt hout h1 h2 h3 hM hexec
  obtain ⟨u, hu, -, htcarry, -, -, -, htacc, htcnt, htout, -⟩ :=
    pushCompletesAndCounts c s data _ _ _ _ _ h rfl rfl rfl rfl rfl
  obtain rfl : t = u := Host.Outcome.next.inj (hexec.symm.trans hu)
  have hdecimated : (s.dec3.ph + (s.dec2.ph + (s.dec1.ph +
      (s.carry.length + data.length) / bpsOf c.enc) / 8) / 5) / 5 = M := by
    simp only [h1, h2, h3, hcarry, List.length_nil, Nat.zero_add, Nat.div_div_eq_div_mul, hM, Nat.mul_assoc,
      Nat.reduceMul]
  rw [hdecimated, hacc, List.length_nil, Nat.zero_add] at htacc htcnt htout
  rw [hout, List.length_nil, Nat.zero_add] at htout
  refine ⟨by rw [htcnt, hcnt, Nat.zero_add], htacc, by rw [htcarry, hcarry, List.length_nil, Nat.zero_add],
    htout, ?_⟩
  have hports : c.ports.length ≠ 0 := mt List.length_eq_zero_iff.mp (configured_ports_ne_nil h.configured)
  have hpayload : 0 < c.pkt - 1 := Nat.sub_pos_of_lt (configured_two_le_pkt h.configured)
  calc data.length / bpsOf c.enc < 200 * (c.pkt - 1)
    _ ↔ M < c.pkt - 1 := by omega
    _ ↔ M / (c.pkt - 1) = 0 := by rw [Nat.div_eq_zero_iff_lt hpayload]
    _ ↔ t.out = [] := by rw [← List.length_eq_zero_iff, htout, Nat.mul_eq_zero, or_iff_right hports]

end Sys2Proof.Proofs

/-! PUSH in a run as the chain of its micro-operations, and two PUSHes as one (spec/46_pipeline_control.md R255,
R261). -/

namespace Sys2Proof.Proofs

open Sys2Proof.Machine Sys2Proof.Laws

/-! ## What a flush reaches -/

/-- `u` with what TS.ANCHOR and FRM.SEND write in `s`: the anchor, the counters of failures, the events and the host's
side. -/
def withSink (u s : State) : State := { u with anch := s.anch, dfail := s.dfail, out := s.out, host := s.host }

theorem tsAnchor_withSink (u s : State) : tsAnchor (withSink u s) = withSink u (tsAnchor s) := by
  cases hvalid : s.anch.valid with
  | true => simp [tsAnchor, withSink, hvalid]
  | false => cases hclock : s.host.clock <;> simp [tsAnchor, askClock, withSink, hvalid, hclock]

theorem deliver_withSink (b : List Byte) (d : Nat) (u s : State) :
    deliver b d (withSink u s) = withSink u (deliver b d s) := by
  cases hemits : s.host.emits <;> simp [deliver, askEmit, withSink, hemits]

theorem deliverFrom_withSink (b : List Byte) (n d : Nat) (u s : State) :
    deliverFrom b n d (withSink u s) = withSink u (deliverFrom b n d s) := by
  induction n generalizing d s with
  | zero => rfl
  | succ n ih => rw [deliverFrom, deliver_withSink, ih, deliverFrom]

theorem headerTime_withSink (i : Nat) {u s : State} (hder : u.der = s.der) (hparams : u.params = s.params) :
    headerTime i (withSink u s) = headerTime i s := by
  have hoffset : tsOffset i (withSink u s) = tsOffset i s := by simp [tsOffset, withSink, hder, hparams]
  rw [headerTime, tsAnchor_withSink, hoffset]
  rfl

theorem headerTime_respond (i : Nat) (s : State) (r : Resp) : headerTime i (s.respond r) = headerTime i s :=
  headerTime_withSink (u := s.respond r) i rfl rfl

/-- A flush reads no more of a state than its sink, its counter, its oldest samples and what START froze, and it writes
no more than the sink, the counter and the queue. -/
theorem flushFrame_withSink {n : Nat} {u s : State} (hder : u.der = s.der) (hparams : u.params = s.params)
    (hcnt : u.cnt = s.cnt) (htake : u.acc.take n = s.acc.take n) :
    flushFrame n (withSink u s) =
      withSink { u with acc := u.acc.drop n, cnt := u.cnt + n } (flushFrame n s) := by
  have hbytes : flushBytes n (withSink u s) = flushBytes n s := by
    rw [flushBytes, headerTime_withSink _ hder hparams]
    simp only [flushBytes, withSink, hparams, hcnt, htake]
  have hpopped : poppedAndAnchored n (withSink u s) =
      withSink { u with acc := u.acc.drop n } (poppedAndAnchored n s) := by
    rw [poppedAndAnchored, tsAnchor_withSink]
    rfl
  have hndest : (withSink u s).der.ndest = s.der.ndest := congrArg Derived.ndest hder
  rw [flushFrame_eq_deliveries, hbytes, hpopped, hndest, deliverFrom_withSink, flushFrame_eq_deliveries]
  rfl

theorem flushFrame_respond (n : Nat) (s : State) (r : Resp) :
    flushFrame n (s.respond r) = (flushFrame n s).respond r := by
  have h := flushFrame_withSink (n := n) (u := s.respond r) (s := s) rfl rfl rfl rfl
  rw [flushFrame_frame n s, flushFrame_acc]
  exact h

/-- Samples put behind a whole payload do not reach its flush, and the input side that makes them does not either. -/
theorem flushFrame_queued {n : Nat} {s : State} (h : n ≤ s.acc.length) (data : List Byte) :
    flushFrame n (queued data s) = queued data (flushFrame n s) := by
  have hflush := flushFrame_withSink (n := n) (u := queued data s) (s := s) rfl rfl rfl
    (List.take_append_of_le_length h)
  have hdrop : (queued data s).acc.drop n = s.acc.drop n ++ outputs3 data s := List.drop_append_of_le_length h
  rw [hdrop] at hflush
  rw [flushFrame_frame n s, flushFrame_acc]
  exact hflush

theorem flushes_respond (n f : Nat) (s : State) (r : Resp) :
    flushes n f (s.respond r) = (flushes n f s).respond r :=
  Function.Commute.iterate_left (g := (State.respond · r)) (flushFrame_respond n · r) f s

theorem flushes_queued {n f : Nat} {s : State} (h : f * n ≤ s.acc.length) (data : List Byte) :
    flushes n f (queued data s) = queued data (flushes n f s) := by
  induction f with
  | zero => rfl
  | succ f ih =>
    rw [Nat.succ_mul] at h
    rw [flushes_succ, ih (by omega), flushFrame_queued (by rw [flushes_acc, List.length_drop]; omega),
      flushes_succ]

/-! ## The chain of micro-operations -/

theorem exec_convert_of_whole {s : State} {enc : BitVec 8} {bytes : List Byte} (henc : s.encValue = enc)
    (h : bytes.length % bpsOf enc = 0) :
    exec (if enc = 0 then .convS16 bytes else .convF32 bytes) s =
      .next (s.respond (.samples (convertedSamples s bytes))) := by
  unfold convertedSamples
  unfold bpsOf at h
  rw [henc]
  split
  · next h0 => exact exec_convS16_of_whole (by rwa [if_pos h0] at h) s
  · next h0 => exact exec_convF32_of_whole (by rwa [if_neg h0] at h) s

/-- After a flush TS.HEADER reads the anchor the flush has taken. -/
theorem exec_tsHeader_flushes {n f : Nat} (h : 0 < f) (i : Nat) (s : State) (r : Resp) :
    exec (.tsHeader i) ((flushes n f s).respond r) =
      .next ((flushes n f s).respond (.samples [headerWords (headerTime i s)])) := by
  have hvalid : ((flushes n f s).respond r).anch.valid = true := flushes_anch_valid h s
  rw [exec_tsHeader, tsAnchor_of_valid hvalid, headerTime_respond, headerTime_flushes]
  rfl

theorem getElem?_eq_map_of_getD {l l' : List Nat} {k : Nat → Nat} (hlen : l'.length = l.length)
    (h : ∀ d, l'.getD d 0 = l.getD d 0 + k d) (d : Nat) : l'[d]? = l[d]?.map fun n => n + k d := by
  have hd := h d
  obtain hlt | hge := Nat.lt_or_ge d l.length
  · rw [List.getD_eq_getElem _ _ (hlen ▸ hlt), List.getD_eq_getElem _ _ hlt] at hd
    rw [List.getElem?_eq_getElem (hlen ▸ hlt), List.getElem?_eq_getElem hlt, hd]
    rfl
  · rw [List.getElem?_eq_none (hlen ▸ hge), List.getElem?_eq_none hge]
    rfl

section

variable (data : List Byte) (s : State)

/-- The state behind the oscillator. -/
def shifted : State :=
  { (carrySplit data s).2 with nco := advancedNco s.params s.nco (arrived data s).length }

/-- The state behind stage 1. -/
def staged1 : State := { shifted data s with dec1 := writtenRun .s1 (rotated data s) s.dec1 }

/-- The state behind stage 2. -/
def staged2 : State := { staged1 data s with dec2 := writtenRun .s2 (outputs1 data s) s.dec2 }

theorem exec_convert_arrived {enc : BitVec 8} (henc : s.encValue = enc) (hbps : s.der.bps = bpsOf enc) (r : Resp) :
    exec (if enc = 0 then .convS16 (carrySplit data s).1 else .convF32 (carrySplit data s).1)
        ((carrySplit data s).2.respond r) =
      .next ((carrySplit data s).2.respond (.samples (arrived data s))) :=
  exec_convert_of_whole henc (hbps ▸ carrySplit_released_whole data s)

theorem exec_ncoRun_shifted (r : Resp) :
    exec (.ncoRun (arrived data s)) ((carrySplit data s).2.respond r) =
      .next ((shifted data s).respond (.samples (rotated data s))) := by
  rw [exec_ncoRun_eq, ncoRun_eq]
  rfl

theorem exec_decRun_staged1 (r : Resp) :
    exec (.decRun .s1 (rotated data s)) ((shifted data s).respond r) =
      .next ((staged1 data s).respond (.samples (outputs1 data s))) :=
  exec_decRun ..

theorem exec_decRun_staged2 (r : Resp) :
    exec (.decRun .s2 (outputs1 data s)) ((staged1 data s).respond r) =
      .next ((staged2 data s).respond (.samples (outputs2 data s))) :=
  exec_decRun ..

theorem exec_decRun_fed (r : Resp) :
    exec (.decRun .s3 (outputs2 data s)) ((staged2 data s).respond r) =
      .next ((fed data s).respond (.samples (outputs3 data s))) :=
  exec_decRun ..

end

/-- Settles O38: each micro-operation is an equation, and so is PUSH; its events are those of the flushes in a row. -/
theorem pushEmitsTheFramesInOrder : Obligations.PushEmitsTheFramesInOrder := by
  unfold Obligations.PushEmitsTheFramesInOrder
  intro c s data h
  have hndest : s.der.ndest = c.ports.length := configured_ndest h.configured
  obtain ⟨frames, hframes⟩ : ∃ f, (queued data s).acc.length / (c.pkt - 1) = f := ⟨_, rfl⟩
  have hpush := exec_push_eq_pushed h data
  have hcounters := (running_pushed h data).counters.trans h.counters.symm
  rw [pushed, drained, hframes] at hpush hcounters
  obtain ⟨es, hes, hhanded⟩ := flushes_delivered (c.pkt - 1) frames (queued data s)
  have hframe := flushes_frame (c.pkt - 1) frames (queued data s)
  refine ⟨_, _, _, _, _, _, _, _, _, _, _, _, _, _, frames,
    fun j => headerWords (headerTime (s.cnt + j * (c.pkt - 1)) (queued data s)), es,
    exec_carrySplit_eq data s, rfl,
    exec_convert_arrived data s (configured_encValue h.configured) (configured_bps h.configured) _, rfl,
    exec_ncoRun_shifted data s _, rfl, exec_decRun_staged1 data s _, rfl, exec_decRun_staged2 data s _, rfl,
    exec_decRun_fed data s _, rfl, hpush, ?_, ?_, fun k => ?_, rfl, hframes.symm, flushes_acc ..,
    fun j hj => exec_tsHeader_flushes (Nat.zero_lt_of_lt hj) _ _ _, hes.out, hndest ▸ hhanded, hes.scripted,
    getElem?_eq_map_of_getD hcounters hes.failures⟩
  · rw [hframe]
    rfl
  · rw [hframe]
    rfl
  · rw [hframe]
    cases k <;> rfl

/-! ## Two PUSHes -/

theorem queued_append {s : State} (h : s.der.bps = bpsOf s.encValue) (a b : List Byte) :
    queued (a ++ b) s = queued b (queued a s) := by
  rw [queued, outputs3_append a b h, fed_append a b h, frmAccum, ← List.append_assoc]
  rfl

/-- A PUSH goes on from the state of the one before it as one PUSH of both chunks: the frames that are whole after the
first chunk are the first frames of both. -/
theorem pushed_append {n : Nat} (hn : 0 < n) {s : State} (h : s.der.bps = bpsOf s.encValue) (a b : List Byte) :
    pushed n (a ++ b) s = pushed n b (pushed n a s) := by
  obtain ⟨q, hq⟩ : ∃ q, queued a s = q := ⟨_, rfl⟩
  have hwhole : q.acc.length / n * n ≤ q.acc.length := Nat.div_mul_le_self _ n
  have hlonger : q.acc.length / n * n ≤ (queued b q).acc.length :=
    hwhole.trans (queued_acc_length b q ▸ Nat.le_add_right _ _)
  calc pushed n (a ++ b) s
    _ = drained n (queued b q) := by rw [pushed, queued_append h, hq]
    _ = drained n (flushes n (q.acc.length / n) (queued b q)) := (drained_flushes hn hlonger).symm
    _ = drained n (queued b (drained n q)) := by rw [flushes_queued hwhole]; rfl
    _ = pushed n b (pushed n a s) := by rw [pushed, pushed, hq]

/-- A PUSH does not read the response held. -/
theorem pushed_respond (n : Nat) (data : List Byte) (s : State) (r : Resp) :
    pushed n data (s.respond r) = (pushed n data s).respond r :=
  flushes_respond n _ (queued data s) r

/-- Settles O39: the second PUSH goes on from the state the first leaves, its response aside. -/
theorem pushIndependentOfChunking : Obligations.PushIndependentOfChunking := by
  unfold Obligations.PushIndependentOfChunking
  intro c s t u a b h ha hb
  have hpayload : 0 < c.pkt - 1 := Nat.sub_pos_of_lt (configured_two_le_pkt h.configured)
  rw [exec_push_eq_pushed h] at ha
  cases ha
  rw [exec_push_eq_pushed (running_pushed h a), pushed_respond] at hb
  cases hb
  rw [exec_push_eq_pushed h, pushed_append hpayload (configured_width h.configured)]
  rfl

end Sys2Proof.Proofs

/-! The commands of pipeline control (spec/46_pipeline_control.md R250 to R254, R257 to R260): what each answers in the
lifecycle state that accepts it, and the refusal in the others. -/

namespace Sys2Proof.Proofs

open Sys2Proof.Machine Sys2Proof.Laws

/-! ## RESET -/

theorem exec_reset (s : State) : exec .reset s = .next (s.afterReset.respond .done) := rfl

theorem step_raiseReset {s : State} (h : s.host.waiting = false) :
    step s.raiseReset = .next (s.afterReset.respond .done) := by
  rw [step, fetch_reset (s := s.raiseReset) h rfl]
  rfl

theorem fetch_of_waiting {s : State} (h : s.host.waiting = true) : fetch s = nextOperation s := fetch_next (.inl h)

/-- Settles O30: every register of `State.afterReset`, and the reset signal as RESET. -/
theorem resetLeavesTheResetState : Obligations.ResetLeavesTheResetState := by
  unfold Obligations.ResetLeavesTheResetState
  intro s
  refine ⟨_, exec_reset s, rfl, rfl, rfl, rfl, rfl, rfl, rfl, rfl, rfl, rfl, rfl, rfl, rfl, rfl, rfl, rfl, rfl,
    fun k => ?_, rfl, rfl, rfl, rfl, rfl, rfl, rfl, rfl, rfl, rfl, rfl, rfl, rfl, rfl, rfl, rfl, rfl, rfl,
    step_raiseReset, fun hwaiting => fetch_of_waiting (s := s.raiseReset) hwaiting⟩
  rw [respond_dec, afterReset_dec]
  exact ⟨rfl, rfl, rfl, rfl⟩

/-! ## CFGWR -/

theorem exec_cfgwr {s : State} (h : s.run = .unconfigured) (reg : CfgReg) (value : List Byte) :
    exec (.cfgwr reg value) s = .next (State.respond { s with cfg := cfgWrite reg value s.cfg } .done) :=
  acceptedIn_self h

theorem u64Value_of_eight {value : List Byte} (h : value.length = 8) : u64Value value = some (leNat value) :=
  if_pos h

theorem u64Value_of_not_eight {value : List Byte} (h : value.length ≠ 8) : u64Value value = none := if_neg h

theorem portsValue_cons (lo hi : Byte) (rest : List Byte) :
    portsValue (lo :: hi :: rest) = (portsValue rest).map (leNat [lo, hi] :: ·) := rfl

/-- A port list is read back from its two-byte entries (30_encoding R112). -/
theorem portsValue_flatMap {ports : List Nat} (h : ∀ q ∈ ports, q < 65536) :
    portsValue (ports.flatMap (bytesLE 2)) = some ports := by
  induction ports with
  | nil => rfl
  | cons q ports ih =>
    have hq : leNat (bytesLE 2 q) = q := leNat_bytesLE (h q List.mem_cons_self)
    have hrest := ih fun p hp => h p (List.mem_cons_of_mem q hp)
    calc portsValue ((q :: ports).flatMap (bytesLE 2))
      _ = (portsValue (ports.flatMap (bytesLE 2))).map (leNat (bytesLE 2 q) :: ·) := rfl
      _ = some (q :: ports) := by rw [hrest, hq]; rfl

/-- An odd number of bytes is no port list. -/
theorem portsValue_of_odd {value : List Byte} (h : value.length % 2 = 1) : portsValue value = none := by
  induction value using portsValue.induct with
  | case1 => cases h
  | case2 b => rfl
  | case3 lo hi rest ih =>
    have hrest : portsValue rest = none := ih (by rw [List.length_cons, List.length_cons] at h; omega)
    rw [portsValue_cons, hrest]
    rfl

theorem u8Value_of_not_one {value : List Byte} (h : value.length ≠ 1) : u8Value value = none := by
  match value, h with
  | [], _ => rfl
  | [_], h => exact absurd rfl h
  | _ :: _ :: _, _ => rfl

/-- A value of the wrong length leaves the register as it was (log 16). -/
theorem cfgWrite_of_not_eight {value : List Byte} (h : value.length ≠ 8) {reg : CfgReg}
    (hreg : reg ∈ [CfgReg.rate, .shiftKhz, .pkt, .chunk]) (c : CfgRegs) : cfgWrite reg value c = c := by
  have hnone := u64Value_of_not_eight h
  fin_cases hreg <;> simp [cfgWrite, f64Value, hnone, written]

/-- Settles O31: the register's value in its encoding is what CFGWR reads from the bytes. -/
theorem cfgwrWritesItsRegister : Obligations.CfgwrWritesItsRegister := by
  unfold Obligations.CfgwrWritesItsRegister
  intro s value ports hrun
  have hexec := exec_cfgwr hrun
  refine ⟨fun h => ?_, hexec .addr value, fun h => ?_, fun b h => ?_, fun h reg hreg => ?_, fun h => ?_,
    fun h => ?_⟩
  · have hvalue := u64Value_of_eight h
    simp [hexec, cfgWrite, f64Value, hvalue, written, State.respond]
  · rw [hexec, cfgWrite, portsValue_flatMap h]
    rfl
  · rw [hexec, h]
    rfl
  · rw [hexec, cfgWrite_of_not_eight h hreg]
    rfl
  · rw [hexec, cfgWrite, portsValue_of_odd h]
    rfl
  · rw [hexec, cfgWrite, u8Value_of_not_one h]
    rfl

/-! ## START -/

theorem askSinkOpen_congr {s t : State} (hscript : t.host.sinkOpen = s.host.sinkOpen)
    (hcount : t.host.nSinkOpen = s.host.nSinkOpen) (addr : List Byte) (ports : List Nat) :
    (askSinkOpen addr ports t).1 = (askSinkOpen addr ports s).1 := by
  unfold askSinkOpen
  rw [hscript, hcount]
  split <;> rfl

/-- Judging the address asks nothing of the sinks. -/
theorem askParsable_sinks (addr : List Byte) (s : State) :
    (askParsable addr s).2.host.sinkOpen = s.host.sinkOpen ∧
      (askParsable addr s).2.host.nSinkOpen = s.host.nSinkOpen := by
  unfold askParsable
  split <;> exact ⟨rfl, rfl⟩

/-- With settings START admits, an address the host can parse and sinks it opens, START begins a run (46 R253). -/
theorem exec_start_built {c : Settings} {s : State} (hrun : s.run = .unconfigured) (h : Admits c s)
    (hparsable : (askParsable c.addr s).1 = true) (hopen : (askSinkOpen c.addr c.ports s).1 = true) :
    ∃ t, exec .start s = .next t ∧ StartBuilt c s t := by
  obtain ⟨hscript, hcount⟩ := askParsable_sinks c.addr s
  have hopen' : (askSinkOpen c.addr c.ports (loadDerived c (askParsable c.addr s).2)).1 = true :=
    (askSinkOpen_congr (t := loadDerived c (askParsable c.addr s).2) hscript hcount _ _).trans hopen
  have hstart : startUp s = openAndBuild c (loadDerived c (askParsable c.addr s).2) := by
    simp [startUp, startFromAddr, h.written, h.beforeAddr, h.afterAddr, h.finite, hparsable]
  refine ⟨startUp s, acceptedIn_self hrun,
    (askSinkOpen c.addr c.ports (loadDerived c (askParsable c.addr s).2)).2.host, ?_⟩
  rw [hstart, openAndBuild, if_pos hopen', askSinkOpen_frame, askParsable_frame]
  rfl

/-- Settles O32: START builds the pipeline, and each clause is what that leaves in one register. -/
theorem startBuildsThePipeline : Obligations.StartBuildsThePipeline := by
  unfold Obligations.StartBuildsThePipeline
  intro s c hrun hwritten hbefore hparsable hafter hfinite hopen
  have hadmits : Admits c s := ⟨hwritten, hbefore, hafter, hfinite⟩
  obtain ⟨t, ht, hbuilt⟩ := exec_start_built hrun hadmits hparsable hopen
  refine ⟨t, ht, running_of_startBuilt hadmits hbuilt, ?_⟩
  obtain ⟨host, rfl⟩ := hbuilt
  exact ⟨rfl, rfl, rfl, rfl, rfl, rfl, rfl, fun k => by cases k <;> exact ⟨rfl, rfl, rfl, rfl⟩,
    rfl, rfl, rfl, rfl, rfl, rfl, rfl⟩

/-! ## STATRD -/

theorem exec_statrd (reg : StatReg) (idx : BitVec 16) (s : State) :
    exec (.statrd reg idx) s = .next (s.respond (.answer (statAnswer s reg idx))) := rfl

/-- A natural number is carried as its low 64 bits (log 23). -/
theorem toNat_ofNat_of_lt {n : Nat} (h : n < 2 ^ 64) : (BitVec.ofNat 64 n).toNat = n := by
  rw [BitVec.toNat_ofNat, Nat.mod_eq_of_lt h]

section

variable {s : State} (idx : BitVec 16)

theorem statAnswer_run : (statAnswer s .run idx).toNat = runNumber s.run := by
  rw [statAnswer]
  cases s.run <;> rfl

theorem statAnswer_dfail_beyond (h : s.der.ndest ≤ idx.toNat) : statAnswer s .dfail idx = 0 := if_pos h

theorem statAnswer_dfail (h : idx.toNat < s.der.ndest) :
    statAnswer s .dfail idx = BitVec.ofNat 64 (s.dfail.getD idx.toNat 0) :=
  if_neg (Nat.not_le_of_lt h)

theorem statAnswer_anchor_not_valid (h : s.anch.valid = false) :
    statAnswer s .anchValid idx = 0 ∧ statAnswer s .anchSec idx = 0 ∧ statAnswer s .anchNsec idx = 0 := by
  simp [statAnswer, anchorAnswer, h]

theorem statAnswer_anchor {sec nsec : Nat} (h : s.anch = ⟨true, sec, nsec⟩) :
    statAnswer s .anchValid idx = 1 ∧ statAnswer s .anchSec idx = BitVec.ofNat 64 sec ∧
      statAnswer s .anchNsec idx = BitVec.ofNat 64 nsec := by
  simp [statAnswer, anchorAnswer, h]

/-- An unwritten configuration register answers 0 (30_encoding R112). -/
theorem statAnswer_unwritten :
    (s.cfg.rate = none → statAnswer s (.cfg .rate) idx = 0) ∧
    (s.cfg.shiftKhz = none → statAnswer s (.cfg .shiftKhz) idx = 0) ∧
    (s.cfg.pkt = none → statAnswer s (.cfg .pkt) idx = 0) ∧
    (s.cfg.chunk = none → statAnswer s (.cfg .chunk) idx = 0) ∧
    (s.cfg.addr = none → statAnswer s (.cfg .addr) idx = 0) ∧
    (s.cfg.ports = none → statAnswer s (.cfg .ports) idx = 0) ∧
    (s.cfg.enc = none → statAnswer s (.cfg .enc) idx = 0) := by
  refine ⟨?_, ?_, ?_, ?_, ?_, ?_, ?_⟩ <;> intro h <;> simp [statAnswer, cfgAnswer, h]

theorem statAnswer_pkt {n : Nat} (h : s.cfg.pkt = some n) : statAnswer s (.cfg .pkt) idx = BitVec.ofNat 64 n := by
  rw [statAnswer, cfgAnswer, h, Option.getD_some]

theorem statAnswer_chunk {n : Nat} (h : s.cfg.chunk = some n) :
    statAnswer s (.cfg .chunk) idx = BitVec.ofNat 64 n := by
  rw [statAnswer, cfgAnswer, h, Option.getD_some]

theorem statAnswer_addr {a : List Byte} (h : s.cfg.addr = some a) :
    statAnswer s (.cfg .addr) idx = BitVec.ofNat 64 a.length := by
  rw [statAnswer, cfgAnswer, h, Option.map_some, Option.getD_some]

theorem statAnswer_ports {ps : List Nat} (h : s.cfg.ports = some ps) :
    statAnswer s (.cfg .ports) idx = BitVec.ofNat 64 (ps.getD idx.toNat 0) := by
  rw [statAnswer, cfgAnswer, h, Option.getD_some]

theorem statAnswer_enc {b : Byte} (h : s.cfg.enc = some b) : statAnswer s (.cfg .enc) idx = b.setWidth 64 := by
  rw [statAnswer, cfgAnswer, h, Option.getD_some]

end

theorem getD_lt_of_forall_lt {l : List Nat} {bound : Nat} (hpos : 0 < bound) (h : ∀ n ∈ l, n < bound) (i : Nat) :
    l.getD i 0 < bound := by
  obtain hi | hi := Nat.lt_or_ge i l.length
  · rw [List.getD_eq_getElem _ _ hi]
    exact h _ (List.getElem_mem hi)
  · rwa [List.getD_eq_default _ _ hi]

/-- Settles O35: the answer of each register, and that a number below 2^64 is carried whole. -/
theorem statrdAnswersAndChangesNothing : Obligations.StatrdAnswersAndChangesNothing := by
  unfold Obligations.StatrdAnswersAndChangesNothing
  intro s idx
  obtain ⟨hrate, hshift, hpkt, hchunk, haddr, hports, henc⟩ := statAnswer_unwritten (s := s) idx
  refine ⟨fun reg => exec_statrd reg idx s, statAnswer_run idx, rfl, toNat_ofNat_of_lt,
    statAnswer_dfail_beyond idx, fun hidx hn => ?_, toNat_ofNat_of_lt, toNat_ofNat_of_lt,
    statAnswer_anchor_not_valid idx, fun sec nsec hanch hsec hnsec => ?_,
    BitVec.toNat_setWidth_of_le (by decide), rfl, hrate, hshift, hpkt, hchunk, haddr, hports, henc,
    fun w h => ?_, fun w h => ?_, fun n h hn => ?_, fun n h hn => ?_, fun a h ha => ?_, fun ps h hps => ?_,
    fun b h => ?_⟩
  · rw [statAnswer_dfail idx hidx, toNat_ofNat_of_lt hn]
  · obtain ⟨hvalid, hs, hn⟩ := statAnswer_anchor idx hanch
    exact ⟨hvalid, by rw [hs, toNat_ofNat_of_lt hsec], by rw [hn, toNat_ofNat_of_lt (by omega)]⟩
  · rw [statAnswer, cfgAnswer, h, Option.getD_some]
  · rw [statAnswer, cfgAnswer, h, Option.getD_some]
  · rw [statAnswer_pkt idx h, toNat_ofNat_of_lt hn]
  · rw [statAnswer_chunk idx h, toNat_ofNat_of_lt hn]
  · rw [statAnswer_addr idx h, toNat_ofNat_of_lt ha]
  · rw [statAnswer_ports idx h, toNat_ofNat_of_lt]
    exact (getD_lt_of_forall_lt (by decide) hps _).trans (by decide)
  · rw [statAnswer_enc idx h, BitVec.toNat_setWidth_of_le (by decide)]

/-! ## The end of a run -/

/-- Settles O41: the next states of EOS and CANCEL, written out. -/
theorem eosAndCancelEndTheRun : Obligations.EosAndCancelEndTheRun := by
  unfold Obligations.EosAndCancelEndTheRun
  exact fun s hrun => ⟨acceptedIn_self hrun, acceptedIn_self hrun⟩

/-- Settles O42: without a valid anchor the header asks the clock. -/
theorem reanchorMakesTheNextHeaderReadTheClock : Obligations.ReanchorMakesTheNextHeaderReadTheClock := by
  unfold Obligations.ReanchorMakesTheNextHeaderReadTheClock
  intro s i hrun
  refine ⟨_, rfl, acceptedIn_self hrun, _, exec_tsHeader i _, ?_, tsAnchor_valid _, tsAnchor_cnt _⟩
  rw [respond_host, tsAnchor_of_not_valid rfl]
  exact askClock_counts _

/-! ## Refusals -/

/-- A refused command changes the response alone (log 11). -/
theorem refused_frame {r : RunState} {s t : State} {go : Host.Outcome State Fault Refusal} (hrun : s.run ≠ r)
    (h : acceptedIn r s go = .next t) : t = { s with resp := t.resp } := by
  rw [acceptedIn_other hrun] at h
  cases h
  rfl

/-- Settles O43: each of the six commands is accepted in one lifecycle state alone. -/
theorem refusedCommandsChangeNothing : Obligations.RefusedCommandsChangeNothing := by
  unfold Obligations.RefusedCommandsChangeNothing
  rintro s i (⟨hrun, rfl | ⟨reg, value, rfl⟩⟩ | ⟨hrun, rfl | rfl | rfl | ⟨data, rfl⟩⟩) <;>
    exact acceptedIn_other hrun

/-- Settles O56: after the end of a run STATRD alone is accepted besides RESET. -/
theorem endedRunStaysEnded : Obligations.EndedRunStaysEnded := by
  unfold Obligations.EndedRunStaysEnded
  intro i s t hended hcommand hreset h
  have hconfigured : s.run ≠ .unconfigured := fun hrun => by simp [hrun] at hended
  have hstopped : s.run ≠ .running := fun hrun => by simp [hrun] at hended
  cases i with
  | reset => exact absurd rfl hreset
  | cfgwr reg value => exact refused_frame hconfigured h
  | start => exact refused_frame hconfigured h
  | push data => exact refused_frame hstopped h
  | eos => exact refused_frame hstopped h
  | cancel => exact refused_frame hstopped h
  | reanchor => exact refused_frame hstopped h
  | statrd reg idx =>
    cases h
    rfl
  | _ => cases hcommand

end Sys2Proof.Proofs

/-! What a step takes when the bytes of a command are not all there (spec/60_exceptions.md R297, 30_encoding R110): the
decoder answers nothing before the last of them, because what it answers stands whatever bytes follow. -/

namespace Sys2Proof.Proofs

open Sys2Proof.Machine Sys2Proof.Laws

/-! ## Reading on -/

/-- An answer of the decoder with more bytes behind those it was read from. -/
def followedBy (more : List Byte) : Decoded → Decoded
  | .ok i rest => .ok i (rest ++ more)
  | .incomplete => .incomplete
  | .reject why rest => .reject why (rest ++ more)

/-- What the reader `read` answers stands, whatever bytes follow: they are left over. -/
def Decides (read : List Byte → Decoded) : Prop :=
  ∀ bs more, read bs ≠ .incomplete → read (bs ++ more) = followedBy more (read bs)

theorem decides_ok (i : Instr) : Decides (.ok i) := fun _ _ _ => rfl

theorem decides_reject (why : Reject) : Decides (.reject why) := fun _ _ _ => rfl

theorem decides_elim_reject {α : Type} (why : Reject) (o : Option α) (f : α → Instr) :
    Decides fun bs => o.elim (.reject why bs) fun a => .ok (f a) bs := by
  cases o with
  | none => exact decides_reject why
  | some a => exact decides_ok (f a)

theorem decides_takeBytes {n : Nat} {k : List Byte → List Byte → Decoded} (h : ∀ field, Decides (k field)) :
    Decides fun bs => takeBytes n bs k := by
  intro bs more hread
  dsimp only [takeBytes] at hread ⊢
  split_ifs at hread with hn
  · have hn' : n ≤ (bs ++ more).length := by rw [List.length_append]; omega
    rw [if_pos hn, if_pos hn', List.take_append_of_le_length hn, List.drop_append_of_le_length hn]
    exact h _ _ more hread
  · exact absurd rfl hread

theorem decides_takeLE {n : Nat} {k : Nat → List Byte → Decoded} (h : ∀ v, Decides (k v)) :
    Decides fun bs => takeLE n bs k :=
  decides_takeBytes fun field => h (leNat field)

theorem decides_takeBlock {k : List Byte → List Byte → Decoded} (h : ∀ data, Decides (k data)) :
    Decides fun bs => takeBlock bs k :=
  decides_takeLE fun _ => decides_takeBytes h

theorem decides_takeByte {k : Byte → List Byte → Decoded} (h : ∀ b, Decides (k b)) :
    Decides fun bs => takeByte bs k := by
  intro bs more hread
  cases bs with
  | nil => exact absurd rfl hread
  | cons b bs => exact h b bs more hread

/-- What the decoder answers under a host command's code stands, whatever bytes follow. -/
theorem decides_decode_hostCommand {i : Instr} (hi : isHostCommand i = true) :
    Decides fun bs => decode (opCode i :: bs) := by
  cases i with
  | reset | start | eos | cancel | reanchor => exact decides_ok _
  | cfgwr reg value =>
    simp only [opCode, decode_cfgwr]
    exact decides_takeByte fun n => decides_takeLE fun _ => decides_takeBytes fun value =>
      decides_elim_reject _ (cfgRegOf n) fun reg => .cfgwr reg value
  | push data => exact decides_takeBlock fun data => decides_ok (.push data)
  | statrd reg idx =>
    simp only [opCode, decode_statrd]
    exact decides_takeByte fun n => decides_takeLE fun idx =>
      decides_elim_reject _ (statRegOf n) fun reg => .statrd reg (BitVec.ofNat 16 idx)
  | _ => cases hi

/-! ## A beginning of a command -/

/-- A proper beginning of a host command on the port is no command yet (30_encoding R110, log 12). -/
theorem portCommand_of_beginning {i : Instr} {bs missing : List Byte} (hwf : i.WF)
    (hi : isHostCommand i = true) (hmissing : missing ≠ []) (h : bs ++ missing = encode i) :
    portCommand bs = .incomplete := by
  cases bs with
  | nil => rfl
  | cons op bs =>
    obtain ⟨rfl, hbs⟩ := List.cons.inj h
    have hport : portCommand (opCode i :: bs) = decode (opCode i :: bs) := if_pos (of_decide_eq_true hi)
    have hwhole : decode (opCode i :: (bs ++ missing)) = .ok i [] :=
      (decode_opCode_eq_ok i).mpr ⟨hbs.trans (List.append_nil _).symm, hwf⟩
    rw [hport]
    by_contra hread
    have hlonger : .ok i [] = followedBy missing (decode (opCode i :: bs)) :=
      hwhole.symm.trans (decides_decode_hostCommand hi bs missing hread)
    cases hdecode : decode (opCode i :: bs) with
    | ok j rest =>
      rw [hdecode] at hlonger
      have hrest : [] = rest ++ missing := (Decoded.ok.inj hlonger).2
      exact hmissing (List.append_eq_nil_iff.mp hrest.symm).2
    | incomplete => exact hread hdecode
    | reject why rest =>
      rw [hdecode] at hlonger
      cases hlonger

theorem step_of_incomplete {s : State} (h : NoSignalNext s) (hbench : s.bench = [])
    (hport : portCommand s.port = .incomplete) : step s = .next s := by
  rw [step, fetch_next h, nextOperation, if_pos hbench, hport]

/-- Settles O47: a proper beginning of a host command decodes to nothing, so there is nothing to take. -/
theorem waitsForAWholeCommand : Obligations.WaitsForAWholeCommand := by
  unfold Obligations.WaitsForAWholeCommand
  intro s i missing hsignal hbench hwf hi hmissing hport
  exact step_of_incomplete hsignal hbench (portCommand_of_beginning hwf hi hmissing hport)

end Sys2Proof.Proofs

/-! The termination signal (spec/60_exceptions.md R286, R288): pending while a command is in progress, then taken as
CANCEL. -/

namespace Sys2Proof.Proofs

open Sys2Proof.Machine Sys2Proof.Laws

theorem step_signal {s : State} (hwaiting : s.host.waiting = false) (hrst : s.rst = false)
    (hterm : s.term = .pending) : step s = exec .cancel s.settleTermination := by
  rw [step, fetch_signal hwaiting hrst hterm]

theorem settleTermination_running {s : State} (h : s.run = .running) :
    s.settleTermination = { s with term := .taken } := by
  rw [State.settleTermination, if_pos h]

theorem settleTermination_not_running {s : State} (h : s.run ≠ .running) :
    s.settleTermination = { s with term := .clear } := by
  rw [State.settleTermination, if_neg h]

/-- Settles O48: the step that takes the signal is CANCEL on the settled state. -/
theorem terminationSignalIsTakenAsCancel : Obligations.TerminationSignalIsTakenAsCancel := by
  unfold Obligations.TerminationSignalIsTakenAsCancel
  intro s
  refine ⟨raiseTermination_pending, raiseTermination_refused, fun hwaiting => ?_, fun hterm hwaiting hrst => ?_,
    _, exec_reset s, rfl⟩
  · exact fetch_of_waiting (by rwa [raiseTermination_host])
  · rw [step_signal hwaiting hrst hterm]
    constructor
    · intro hrun
      rw [settleTermination_running hrun]
      exact acceptedIn_self hrun
    · intro hrun
      rw [settleTermination_not_running hrun]
      exact acceptedIn_other hrun

end Sys2Proof.Proofs

/-! The fatal errors (spec/60_exceptions.md R280 to R283, R290): the alignment error of a converter, START's
configuration errors in the order of 46_pipeline_control R253, and sinks that do not open. -/

namespace Sys2Proof.Proofs

open Sys2Proof.Machine Sys2Proof.Laws

/-! ## AlignmentError -/

theorem aligned_of_misaligned {width : Nat} {bytes : List Byte} (h : bytes.length % width ≠ 0)
    (f : List Byte → List Sample) (s : State) :
    aligned width bytes f s = .raised (takeError .alignment bytes.length s) := if_neg h

/-- Settles O19: both converters raise before they convert, and the entry writes what `takeError` does. -/
theorem misalignedRunRaisesAlignmentError : Obligations.MisalignedRunRaisesAlignmentError := by
  unfold Obligations.MisalignedRunRaisesAlignmentError
  intro s bytes
  exact ⟨fun h => congrArg (Res.outcome · Resp.samples) (aligned_of_misaligned h samplesS16 s),
    fun h => congrArg (Res.outcome · Resp.samples) (aligned_of_misaligned h (samplesF32 s.params.endian) s)⟩

/-! ## Sinks that do not open -/

/-- With settings START admits and an address the host can parse, START comes to ask for the sinks (46 R253). -/
theorem exec_start_admitted {c : Settings} {s : State} (hrun : s.run = .unconfigured) (h : Admits c s)
    (hparsable : (askParsable c.addr s).1 = true) :
    exec .start s = .next (openAndBuild c (loadDerived c (askParsable c.addr s).2)) := by
  refine (acceptedIn_self hrun).trans (congrArg Host.Outcome.next ?_)
  simp [startUp, startFromAddr, h.written, h.beforeAddr, h.afterAddr, h.finite, hparsable]

/-- Where the sinks do not open START ends in the runtime error 1, with the derived constants loaded and nothing built
(60_exceptions R283). -/
theorem exec_start_unopened {c : Settings} {s : State} (hrun : s.run = .unconfigured) (h : Admits c s)
    (hparsable : (askParsable c.addr s).1 = true) (hopen : (askSinkOpen c.addr c.ports s).1 = false) :
    ∃ host, exec .start s = .next (takeError .runtime 1 (loadDerived c { s with host := host })) := by
  obtain ⟨hscript, hcount⟩ := askParsable_sinks c.addr s
  have hopen' : (askSinkOpen c.addr c.ports (loadDerived c (askParsable c.addr s).2)).1 = false :=
    (askSinkOpen_congr (t := loadDerived c (askParsable c.addr s).2) hscript hcount _ _).trans hopen
  refine ⟨(askSinkOpen c.addr c.ports (loadDerived c (askParsable c.addr s).2)).2.host, ?_⟩
  rw [exec_start_admitted hrun h hparsable, openAndBuild, if_neg (by simp [hopen']), askSinkOpen_frame,
    askParsable_frame]
  rfl

/-- Settles O34: the runtime error, on a state whose derived constants, oscillator step and host's side alone differ. -/
theorem unusableSinksAreARuntimeError : Obligations.UnusableSinksAreARuntimeError := by
  unfold Obligations.UnusableSinksAreARuntimeError
  intro s c hrun hwritten hbefore hparsable hafter hfinite hopen
  obtain ⟨host, hexec⟩ := exec_start_unopened hrun ⟨hwritten, hbefore, hafter, hfinite⟩ hparsable hopen
  exact ⟨_, hexec, rfl, rfl, rfl, rfl, rfl, fun k => by cases k <;> rfl, rfl, rfl, rfl, rfl, rfl, rfl⟩

/-! ## ConfigError -/

/-- The sub-code of the first check of 46 R253 that fails from the address on, if one does, the host judging the
address. -/
def firstBadFromAddr (c : Settings) (s : State) : Option Nat :=
  if (askParsable c.addr s).1 = false then some 6
  else (checkAfterAddr c).or (if stepFinite c s.params = false then some 3 else none)

/-- The sub-code of the first check of 46 R253 that fails on written settings, if one does. -/
def firstBadSetting (c : Settings) (s : State) : Option Nat :=
  (checkBeforeAddr s.params c).or (firstBadFromAddr c s)

/-- The configuration error `code` taken on a state in which the derived constants, the oscillator's step and bypass
and the host's judgement of the address alone may be new (60_exceptions R281). -/
def ConfigErrorTaken (code : Nat) (s t : State) : Prop :=
  ∃ der nco host, t = takeError .config code { s with der := der, nco := nco, host := host } ∧
    nco.phase = s.nco.phase ∧ host.nSinkOpen = s.host.nSinkOpen ∧ host.nClock = s.host.nClock

theorem startFromAddr_of_bad {c : Settings} {s : State} {code : Nat} (h : firstBadFromAddr c s = some code) :
    ConfigErrorTaken code s (startFromAddr c s) := by
  have hsinks := (askParsable_sinks c.addr s).2
  have hclock := askParsable_nClock c.addr s
  unfold firstBadFromAddr at h
  unfold startFromAddr
  dsimp only
  rw [askParsable_frame]
  cases hparsable : (askParsable c.addr s).1 with
  | false =>
    obtain rfl : 6 = code := by simpa [hparsable] using h
    exact ⟨s.der, s.nco, _, rfl, rfl, hsinks, hclock⟩
  | true =>
    cases hafter : checkAfterAddr c with
    | some after =>
      obtain rfl : after = code := by simpa [hparsable, hafter] using h
      exact ⟨s.der, s.nco, _, rfl, rfl, hsinks, hclock⟩
    | none =>
      obtain ⟨hfinite, rfl⟩ : stepFinite c s.params = false ∧ 3 = code := by
        simpa [hparsable, hafter] using h
      rw [hfinite]
      exact ⟨_, _, _, rfl, rfl, hsinks, hclock⟩

/-- START reports the first bad setting (46 R253). -/
theorem startUp_of_bad {c : Settings} {s : State} {code : Nat} (hwritten : settingsOf s.cfg = some c)
    (h : firstBadSetting c s = some code) : ConfigErrorTaken code s (startUp s) := by
  unfold firstBadSetting at h
  cases hbefore : checkBeforeAddr s.params c with
  | some before =>
    obtain rfl : before = code := by simpa [hbefore] using h
    simp only [startUp, hwritten, hbefore]
    exact ⟨s.der, s.nco, s.host, rfl, rfl, rfl, rfl⟩
  | none =>
    rw [hbefore, Option.none_or] at h
    simp only [startUp, hwritten, hbefore]
    exact startFromAddr_of_bad h

theorem startUp_of_unwritten {s : State} (h : settingsOf s.cfg = none) : ConfigErrorTaken 1 s (startUp s) := by
  rw [startUp, h]
  exact ⟨s.der, s.nco, s.host, rfl, rfl, rfl, rfl⟩

/-- A frame size is beyond `PKT_MAX` where one is set and is smaller (10_state R23). -/
theorem withinPktMax_eq_false {pktMax : Option Nat} {pkt : Nat} :
    withinPktMax pktMax pkt = false ↔ ∃ m, pktMax = some m ∧ m < pkt := by
  cases pktMax with
  | none => simp [withinPktMax]
  | some m => simp [withinPktMax]

/-- A port is bad where it is 0 or above 65535 (10_state R26). -/
theorem any_bad_port {ports : List Nat} :
    (ports.any fun q => decide (q = 0 ∨ 65535 < q)) = true ↔ 0 ∈ ports ∨ ∃ q ∈ ports, 65535 < q := by
  simp only [List.any_eq_true, decide_eq_true_eq]
  constructor
  · rintro ⟨q, hq, rfl | hlarge⟩
    · exact .inl hq
    · exact .inr ⟨q, hq, hlarge⟩
  · rintro (hzero | ⟨q, hq, hlarge⟩)
    · exact ⟨0, hzero, .inl rfl⟩
    · exact ⟨q, hq, .inr hlarge⟩

theorem stepFinite_eq_false {c : Settings} {p : Params} :
    stepFinite c p = false ↔ f64IsFinite (shiftHzOf c.shiftKhz) = false ∨
      f64IsFinite (numPhaseStep p (shiftHzOf c.shiftKhz) c.rate) = false :=
  Bool.and_eq_false_iff

/-- The checks before the address, each by what makes it fail. -/
theorem checkBeforeAddr_eq (p : Params) (c : Settings) :
    checkBeforeAddr p c =
      if f64IsFinite c.rate = false ∨ f64Lt 0 c.rate = false then some 2
      else if f64IsFinite c.shiftKhz = false then some 3
      else if c.pkt < 2 ∨ (∃ m, p.pktMax = some m ∧ m < c.pkt) then some 4
      else if c.chunk = 0 then some 5 else none := by
  simp only [checkBeforeAddr, not_and_or, Bool.not_eq_true, withinPktMax_eq_false]

/-- The checks after the address, each by what makes it fail. -/
theorem checkAfterAddr_eq (c : Settings) :
    checkAfterAddr c =
      if c.ports = [] ∨ 0 ∈ c.ports ∨ (∃ q ∈ c.ports, 65535 < q) then some 7
      else if c.enc ≠ 0 ∧ c.enc ≠ 1 then some 8 else none := by
  simp only [checkAfterAddr, any_bad_port, not_or, ne_eq]

/-- A check that comes first is the first to fail. -/
theorem ite_some_or {α : Type} {p : Prop} [Decidable p] (a : α) (o o' : Option α) :
    (if p then some a else o).or o' = if p then some a else o.or o' := by
  split <;> rfl

/-- The causes an operation but START leaves: the one there was, none after RESET, or the alignment error's. -/
def CauseNotConfig (s t : State) : Prop := t.cause = s.cause ∨ t.cause = 0 ∨ t.cause = errCode .alignment

theorem exec_push_cause {data : List Byte} {s t : State} (h : exec (.push data) s = .next t) :
    CauseNotConfig s t := by
  obtain ⟨-, rfl⟩ | ⟨u, -, hok, rfl⟩ | ⟨n, -, rfl⟩ := exec_push_next h
  · exact .inl rfl
  · rw [pushData_frame hok]
    exact .inl rfl
  · exact .inr (.inr rfl)

theorem aligned_outcome_cause {w : Nat} {bytes : List Byte} {f : List Byte → List Sample} {s t : State}
    (h : (aligned w bytes f s).outcome .samples = .next t) : CauseNotConfig s t := by
  obtain rfl | rfl := aligned_outcome_next h
  · exact .inl rfl
  · exact .inr (.inr rfl)

theorem exec_cause {i : Instr} {s t : State} (hi : i ≠ .start) (h : exec i s = .next t) : CauseNotConfig s t := by
  cases i with
  | start => exact absurd rfl hi
  | reset => cases h; exact .inr (.inl rfl)
  | push data => exact exec_push_cause h
  | convS16 bytes | convF32 bytes => exact aligned_outcome_cause h
  | cfgwr _ _ | eos | cancel | reanchor => obtain rfl | rfl := acceptedIn_next_cases h <;> exact .inl rfl
  | statrd _ _ | lpfDesign _ _ | carrySplit _ | frmAccum _ => cases h; exact .inl rfl
  | decStep k x | decRun k run => cases h; exact .inl (by simp)
  | ncoStep x => cases h; rw [ncoStep_frame]; exact .inl rfl
  | ncoRun run => cases h; rw [(ncoRun_frame run s).1]; exact .inl rfl
  | tsAnchor | tsHeader n => cases h; exact .inl (tsAnchor_cause s)
  | frmFlush => rw [exec_frmFlush_next h, flushFrame_frame]; exact .inl rfl
  | frmSend bytes => cases h; rw [frmSend, deliverFrom_frame]; exact .inl rfl

/-- No operation but START raises the configuration error (60_exceptions R281). -/
theorem cause_config_of_exec {i : Instr} {s t : State} (hi : i ≠ .start) (h : exec i s = .next t)
    (hcause : t.cause = 1) : s.cause = 1 := by
  obtain hkept | hnone | halignment := exec_cause hi h
  · rw [← hkept, hcause]
  · rw [hnone] at hcause
    cases hcause
  · rw [halignment] at hcause
    cases hcause

/-- Settles O33: the first failing check is the one whose sub-code START reports, and every other operation leaves the
cause there was, none, or the alignment error's. -/
theorem startReportsTheFirstBadSetting : Obligations.StartReportsTheFirstBadSetting := by
  unfold Obligations.StartReportsTheFirstBadSetting
  refine ⟨fun s hrun code hcode hbad => ?_, fun i s t h hcause => ?_⟩
  · have htaken : ConfigErrorTaken code s (startUp s) := by
      split at hcode
      · next hwritten =>
        rw [hcode]
        exact startUp_of_unwritten hwritten
      · next c hwritten =>
        have hfirst : (firstBadSetting c s).getD 0 = code := by
          rw [hcode, firstBadSetting, firstBadFromAddr, checkBeforeAddr_eq, checkAfterAddr_eq]
          simp only [ite_some_or, Option.none_or, stepFinite_eq_false]
          split_ifs <;> rfl
        obtain hsome | ⟨-, hzero⟩ := Option.getD_eq_iff.mp hfirst
        · exact startUp_of_bad hwritten hsome
        · exact absurd hzero.symm hbad
    obtain ⟨der, nco, host, ht, hphase, hsinks, hclock⟩ := htaken
    refine ⟨startUp s, acceptedIn_self hrun, ?_⟩
    rw [ht]
    exact ⟨rfl, rfl, rfl, rfl, rfl, fun k => by cases k <;> rfl, hsinks, hclock, rfl, rfl, rfl, rfl, rfl, rfl,
      hphase⟩
  · by_cases hi : i = .start
    · exact .inr hi
    · exact .inl (cause_config_of_exec hi h hcause)

end Sys2Proof.Proofs
